-- ==== Sys2Proof/Word.lean ====
section
/-! DEFINITION. The value types of the core: one type for each thing rule R6 gives a width.
Every value is an unsigned number of a stated width (rule R8); there are no signed values. -/

namespace Sys2Proof

/-- The `data` of one symbol and one word of a pattern table: `DATA_WIDTH` = 32 bits (R6, R70). -/
abbrev Data := BitVec 32

/-- The `ctrl` marker of one symbol: `CTRL_WIDTH` = 4 bits (R6, R70). -/
abbrev Ctrl := BitVec 4

/-- The oscillator's `length` input and `remaining` counter: `LENGTH_WIDTH` = 32 bits (R6). -/
abbrev BurstTicks := BitVec 32

/-- One byte. A select vector (R80) is stored as one byte, its unused high bits 0. -/
abbrev Byte := BitVec 8

end Sys2Proof
end

