-- ==== Sys2Proof/Syntax.lean ====
section
/-! DEFINITION. The operations of the core as syntax: one constructor for each row of
`spec/opcode_table.json`. An operation is what one component does in one tick (R11). Its only
operand is the component that performs it: rules R81 to R87 give no other operand bits. -/

namespace Sys2Proof

/-- The three pattern tables (R2, R104). Any other name is no configuration (R105). -/
inductive Pattern where
  | framing
  | trainA
  | trainB
  deriving DecidableEq, Repr

/-- `HAS_CFG[p]` (R6): the two training patterns carry link-config bits in word 1. -/
def Pattern.hasCfg : Pattern → Bool
  | .framing => false
  | .trainA => true
  | .trainB => true

/-- Which BurstOscillator: the one inside the BurstSequencer (R35), or one on its own with its
`start` and `length` ports driven by the controller (R32, R39). -/
inductive OscId where
  | sequencer
  | bare
  deriving DecidableEq, Repr

/-- Who evaluates a pattern-table function in a tick (R50, R87): a detector, or the emitter. -/
inductive Reader where
  | detector (p : Pattern)
  | emitter
  deriving DecidableEq, Repr

/-- The operations (R80 to R87). Constructors stand in the order of `spec/opcode_table.json`. -/
inductive Instr where
  /-- DET.RESET (R117). -/
  | detReset (p : Pattern)
  /-- DET.HOLD (R112). -/
  | detHold (p : Pattern)
  /-- DET.MISMATCH (R116). -/
  | detMismatch (p : Pattern)
  /-- DET.MATCH (R114). -/
  | detMatch (p : Pattern)
  /-- DET.MATCH_SAT (R115). -/
  | detMatchSat (p : Pattern)
  /-- DETL.RESET (R120). -/
  | detlReset (p : Pattern)
  /-- DETL.LATCH (R118). -/
  | detlLatch (p : Pattern)
  /-- DETL.KEEP (R119). -/
  | detlKeep (p : Pattern)
  /-- EMT.RESET (R141). -/
  | emtReset
  /-- EMT.IDLE (R137). -/
  | emtIdle
  /-- EMT.START (R138). -/
  | emtStart
  /-- EMT.RUN (R139). -/
  | emtRun
  /-- EMT.STALL_START (R140). -/
  | emtStallStart
  /-- EMT.STALL_RUN (R140). -/
  | emtStallRun
  /-- OSC.RESET (R160). -/
  | oscReset (o : OscId)
  /-- OSC.IDLE (R155). -/
  | oscIdle (o : OscId)
  /-- OSC.START (R156). -/
  | oscStart (o : OscId)
  /-- OSC.START0 (R157). -/
  | oscStartZero (o : OscId)
  /-- OSC.RUN (R158). -/
  | oscRun (o : OscId)
  /-- OSC.LAST (R159). -/
  | oscLast (o : OscId)
  /-- WAVE.RESET (R160). -/
  | waveReset (o : OscId)
  /-- WAVE.COUNT (R153). -/
  | waveCount (o : OscId)
  /-- WAVE.TOGGLE (R154). -/
  | waveToggle (o : OscId)
  /-- SEQ.RESET (R176). -/
  | seqReset
  /-- SEQ.WAIT (R172). -/
  | seqWait
  /-- SEQ.FIRE (R173). -/
  | seqFire
  /-- SEQ.COUNT (R174). -/
  | seqCount
  /-- SEQ.WRAP (R175). -/
  | seqWrap
  /-- PAT.READ (R101). -/
  | patRead (r : Reader)
  /-- PAT.CTRL (R102). -/
  | patCtrl (r : Reader)
  /-- PAT.MASK (R103). -/
  | patMask (r : Reader)
  deriving DecidableEq, Repr

/-- An operation group of one component (R80): the place a select vector is fetched for. The three
pattern functions have empty vectors, so each of them is a place of its own (R87). -/
inductive Slot where
  | det (p : Pattern)
  | detl (p : Pattern)
  | emt
  | osc (o : OscId)
  | wave (o : OscId)
  | seq
  | patRead (r : Reader)
  | patCtrl (r : Reader)
  | patMask (r : Reader)
  deriving DecidableEq, Repr

end Sys2Proof
end

