-- ==== Sys2Proof/Config.lean ====
section
/-! DEFINITION. The configuration of rule R6 (fixed before tick 0, never changed), the lines the
environment drives in one tick (R23, R28, R32, R36), and the free values: what nothing in the spec
fixes, as constants without a body. -/

namespace Sys2Proof

/-- One pattern table (R100): its words, zero-indexed, and the marker expected on word 0 only.
`DEPTH` is the number of words; `HAS_CFG` follows from which pattern it is. -/
structure Table where
  words : List Data
  firstCtrl : Ctrl
  deriving DecidableEq, Repr

/-- `EMIT_STALL_POLICY` (R6, R140). -/
inductive StallPolicy where
  | refuse
  | hold
  | restart
  deriving DecidableEq, Repr

/-- The configuration (R6). `N` is given per instance; `TICK_RATE` and `BURST_FREQ` serve only to
derive `half` (R77) and appear in Machine/Construct.lean. -/
structure Config where
  framing : Table
  trainA : Table
  trainB : Table
  /-- `N_DET[p]`. -/
  nDetFraming : Nat
  nDetTrainA : Nat
  nDetTrainB : Nat
  /-- `N_EMIT`. -/
  nEmit : Nat
  /-- `EMIT_PATTERN`. -/
  emitPattern : Pattern
  /-- `HALF_PERIOD_TICKS` (HALF). -/
  half : Nat
  /-- `BURST_LENGTH_TICKS` (L). -/
  burstLength : Nat
  /-- `BURST_PERIOD_TICKS` (P). -/
  burstPeriod : Nat
  /-- `EMIT_STALL_POLICY`. -/
  stallPolicy : StallPolicy
  deriving DecidableEq, Repr

/-- The table of pattern `p`. -/
def Config.table (c : Config) : Pattern → Table
  | .framing => c.framing
  | .trainA => c.trainA
  | .trainB => c.trainB

/-- `DEPTH[p]`. -/
def Config.depth (c : Config) (p : Pattern) : Nat := (c.table p).words.length

/-- `N_DET[p]`. -/
def Config.nDet (c : Config) : Pattern → Nat
  | .framing => c.nDetFraming
  | .trainA => c.nDetTrainA
  | .trainB => c.nDetTrainB

/-- `M` of the detector of pattern `p` (R76). -/
def Config.mDet (c : Config) (p : Pattern) : Nat := c.depth p * c.nDet p

/-- `DEPTH` of the emitter's pattern. -/
def Config.emitDepth (c : Config) : Nat := c.depth c.emitPattern

/-- `M` of the emitter (R76). -/
def Config.mEmit (c : Config) : Nat := c.emitDepth * c.nEmit

/-- The configuration of `State.reset`. DESIGN CHOICE, unsafe (notes/assumptions/2.md): the source
gives no values (N3, N4), so these are test parameters the spec itself declares: tables `F2`, `T4`,
`TB` (95_test_vectors.md section 2), N = 2, `HALF = 2`, `L = 4`, `P = 5` (vector VQ2), and the stated
default stall policy. No statement rests on them. -/
def Config.atReset : Config where
  framing := { words := [0x000000BC, 0x11223344], firstCtrl := 0x1 }
  trainA := { words := [0xBCBCBCBC, 0x4A4A0000, 0x4A4A4A4A, 0x4A4A4A4A], firstCtrl := 0xF }
  trainB := { words := [0xBCBCBCBC, 0x45450000, 0x45454545, 0x45454545], firstCtrl := 0xF }
  nDetFraming := 2
  nDetTrainA := 2
  nDetTrainB := 2
  nEmit := 2
  emitPattern := .trainA
  half := 2
  burstLength := 4
  burstPeriod := 5
  stallPolicy := .refuse

/-- Everything the environment presents in one tick: the input ports of the SignalingUnit (R23, R28,
R36, R192) and of the BurstOscillator that stands alone (R32). -/
structure Inputs where
  /-- `rst` of the SignalingUnit, fanned out to its five components (R192). -/
  rst : Bool
  sinkValid : Bool
  sinkData : Data
  sinkCtrl : Ctrl
  send : Bool
  /-- Live link-config flag `reset_i` (R28). -/
  resetI : Bool
  loopbackI : Bool
  scramblingI : Bool
  sourceReady : Bool
  polling : Bool
  /-- `rst` of the BurstOscillator that stands alone. -/
  oscRst : Bool
  oscStart : Bool
  oscLength : BurstTicks
  deriving DecidableEq, Repr, Inhabited

/-- A controller that asks for nothing (R216): every request line low, no symbol presented. -/
def Inputs.quiet : Inputs where
  rst := false
  sinkValid := false
  sinkData := 0
  sinkCtrl := 0
  send := false
  resetI := false
  loopbackI := false
  scramblingI := false
  sourceReady := true
  polling := false
  oscRst := false
  oscStart := false
  oscLength := 0

/-- FREE VALUE (notes/assumptions/3.md): what the environment presents in tick `n` when the state
holds no line values for that tick. It may drive any input to any value (R197). No body. -/
opaque Config.freeInputs : Nat → Inputs

/-- FREE VALUE (notes/assumptions/6.md): the word at an index outside a table. Such an index cannot be
formed (R51), so the spec gives it no value. No body. -/
opaque Config.wordOutside : Pattern → Nat → Data

end Sys2Proof
end

