-- ==== Sys2Proof/WellFormed.lean ====
section
/-! DEFINITION. What is well-formed: an operation (its group exists in its component) and a
configuration (every constraint of the table of rule R6 holds, R7). -/

namespace Sys2Proof

/-- Group DETL exists only when `HAS_CFG[p]` (R82); every other group exists in each component. -/
def Instr.wellFormed : Instr → Bool
  | .detReset _ => true
  | .detHold _ => true
  | .detMismatch _ => true
  | .detMatch _ => true
  | .detMatchSat _ => true
  | .detlReset p => p.hasCfg
  | .detlLatch p => p.hasCfg
  | .detlKeep p => p.hasCfg
  | .emtReset => true
  | .emtIdle => true
  | .emtStart => true
  | .emtRun => true
  | .emtStallStart => true
  | .emtStallRun => true
  | .oscReset _ => true
  | .oscIdle _ => true
  | .oscStart _ => true
  | .oscStartZero _ => true
  | .oscRun _ => true
  | .oscLast _ => true
  | .waveReset _ => true
  | .waveCount _ => true
  | .waveToggle _ => true
  | .seqReset => true
  | .seqWait => true
  | .seqFire => true
  | .seqCount => true
  | .seqWrap => true
  | .patRead _ => true
  | .patCtrl _ => true
  | .patMask _ => true

/-- The constraints on the table of pattern `p` (R6): `DEPTH >= 1`, `DEPTH >= 2` when `HAS_CFG`,
`FIRST_CTRL != 0`. -/
def Config.tableOk (c : Config) (p : Pattern) : Bool :=
  decide (1 ≤ c.depth p) && (!p.hasCfg || decide (2 ≤ c.depth p)) && (c.table p).firstCtrl != 0

/-- The constraints on one repeat count (R6): `N >= 1` and `M >= 2`. -/
def Config.countOk (n m : Nat) : Bool := decide (1 ≤ n) && decide (2 ≤ m)

/-- The constraints on the burst timing (R6, R78): `HALF >= 1`, `1 <= L < 2^32`, `P >= L + 1`. -/
def Config.timingOk (c : Config) : Bool :=
  decide (1 ≤ c.half) && decide (1 ≤ c.burstLength) && decide (c.burstLength < 2 ^ 32)
    && decide (c.burstLength + 1 ≤ c.burstPeriod)

/-- A configuration is well-formed when every constraint of the table of rule R6 holds (R7). -/
def Config.wellFormed (c : Config) : Bool :=
  c.tableOk .framing && c.tableOk .trainA && c.tableOk .trainB
    && Config.countOk c.nDetFraming (c.mDet .framing)
    && Config.countOk c.nDetTrainA (c.mDet .trainA)
    && Config.countOk c.nDetTrainB (c.mDet .trainB)
    && Config.countOk c.nEmit c.mEmit
    && c.timingOk

end Sys2Proof
end

