-- ==== Sys2Proof/Machine/State.lean ====
section
/-! DEFINITION. The state of the machine as plain data: every register of rules R22, R27, R31 and
R35 of the five components of a SignalingUnit (R192) and of one BurstOscillator that stands alone
(R32, R39), with the configuration, the input lines of the tick and the pattern-table wires beside
them; the ways a step can stop; and the machine right after reset (R43). -/

namespace Sys2Proof.Machine

/-- The registers `adr` and `count` of an OrderedSetDetector (R22). Natural numbers: no rule depends
on a width beyond the range (R22, R90); the ranges are in `State.inRange`. -/
structure Detector where
  adr : Nat
  count : Nat
  deriving DecidableEq, Repr

/-- Three link-config booleans: a detector's latches `cfg_reset`, `cfg_loopback`, `cfg_scrambling`
(R22), which exist only when `HAS_CFG[p]`. -/
structure LinkConfig where
  reset : Bool
  loopback : Bool
  scrambling : Bool
  deriving DecidableEq, Repr

/-- The registers of the OrderedSetEmitter (R27). -/
structure Emitter where
  adr : Nat
  count : Nat
  run : Bool
  deriving DecidableEq, Repr

/-- The registers of a BurstOscillator (R31). -/
structure Oscillator where
  halfCnt : Nat
  level : Bool
  busy : Bool
  remaining : BurstTicks
  doneQ : Bool
  deriving DecidableEq, Repr

/-- The wires of the three pattern-table functions of one reader (R87, R111): the word, the expected
`ctrl` and the compare mask at its cursor. -/
structure PatWires where
  word : Data
  ctrl : Ctrl
  mask : Data
  deriving DecidableEq, Repr

/-- The machine. -/
structure State where
  /-- The configuration (R6). Not a register: no operation changes it (R20, R52, R214). It stands
  here because the machine is a function of it (notes/assumptions/1.md). -/
  config : Config
  /-- `det[FRAMING]`, `det[TRAIN_A]`, `det[TRAIN_B]` (R22, R192). -/
  detFraming : Detector
  detTrainA : Detector
  detTrainB : Detector
  /-- The latches of `det[TRAIN_A]` and `det[TRAIN_B]`; the FRAMING detector has none (R22). -/
  cfgTrainA : LinkConfig
  cfgTrainB : LinkConfig
  /-- `emt` (R27). -/
  emt : Emitter
  /-- `rep_cnt` of `seq` (R35). -/
  repCnt : Nat
  /-- The oscillator wrapped in `seq` (R35). -/
  seqOsc : Oscillator
  /-- The BurstOscillator that stands alone (R31, R32). -/
  bareOsc : Oscillator
  /-- The wires of the pattern-table functions, as the PAT operations of the tick drove them. -/
  wiresFraming : PatWires
  wiresTrainA : PatWires
  wiresTrainB : PatWires
  wiresEmt : PatWires
  /-- What the environment presents in this tick. -/
  inputs : Inputs
  /-- What the environment is already known to present in the ticks that follow, next tick first. -/
  pending : List Inputs
  /-- The number of this tick (R9), counted from power-on: the index of the free input values. -/
  tick : Nat
  deriving DecidableEq, Repr

/-- How a step gets stuck. -/
inductive Fault where
  /-- A register is outside its range, or `busy = 1` with `remaining = 0` (R88, U13): unreachable, and
  no rule gives it a meaning. Raised by `step` and by OSC.RUN on `remaining = 0`. Safe. -/
  | unreachableState
  /-- PAT.READ at an index outside the table, which cannot be formed (R51). Raised by PAT.READ. Safe. -/
  | addressOutsideTable
  deriving DecidableEq, Repr

/-- Why the machine makes no claim about a step. -/
inductive Refusal where
  /-- The instruction has no meaning in the model yet. Raised by no arm. Safe. -/
  | notModelled (mnemonic : String)
  /-- `EmitterStalled` (R180, R183): a symbol is offered and not accepted, and `EMIT_STALL_POLICY` is
  `refuse`. Raised by EMT.STALL_START and EMT.STALL_RUN. Safe. -/
  | emitterStalled
  /-- `IllFormedConfig` (R7, R180): the configuration breaks a constraint of R6, so no machine is
  built. Raised by `step`. Safe. -/
  | illFormedConfig
  /-- A DETL operation asked of a detector without config latches, where the group does not exist
  (R82). Raised by the three DETL meanings on FRAMING. Safe. -/
  | groupAbsent
  /-- The fetched bytes are no select vector of their group. Raised by `step`; the select tables cover
  every vector (R80), so it never happens. Safe. -/
  | badSelectVector
  deriving DecidableEq, Repr

/-- Reset value of a detector's `adr` and `count` (R22). -/
def Detector.reset : Detector := { adr := 0, count := 0 }

/-- Reset value of a detector's latches (R22, D6). -/
def LinkConfig.cleared : LinkConfig := { reset := false, loopback := false, scrambling := false }

/-- Reset value of the emitter with repetition length `m` (R27): `count = M - 1`. -/
def Emitter.reset (m : Nat) : Emitter := { adr := 0, count := m - 1, run := false }

/-- Reset value of an oscillator (R31). -/
def Oscillator.reset : Oscillator :=
  { halfCnt := 0, level := false, busy := false, remaining := 0, doneQ := false }

/-- The wires a reader at index 0 sees: word 0, `FIRST_CTRL`, and every bit compared (R73, R75). -/
def PatWires.atZero (t : Table) : PatWires :=
  { word := t.words.headD 0, ctrl := t.firstCtrl, mask := 0xFFFFFFFF }

/-- The machine of configuration `c` at tick 0 (R43, R210): power-on is a tick with `rst = 1` before
tick 0, so every register holds its reset value. The controller is quiet (R216; DESIGN CHOICE,
notes/assumptions/4.md). -/
def State.resetWith (c : Config) : State where
  config := c
  detFraming := Detector.reset
  detTrainA := Detector.reset
  detTrainB := Detector.reset
  cfgTrainA := LinkConfig.cleared
  cfgTrainB := LinkConfig.cleared
  emt := Emitter.reset c.mEmit
  repCnt := 0
  seqOsc := Oscillator.reset
  bareOsc := Oscillator.reset
  wiresFraming := PatWires.atZero c.framing
  wiresTrainA := PatWires.atZero c.trainA
  wiresTrainB := PatWires.atZero c.trainB
  wiresEmt := PatWires.atZero (c.table c.emitPattern)
  inputs := Inputs.quiet
  pending := []
  tick := 0

/-- The machine right after reset, on the configuration `Config.atReset` (notes/assumptions/2.md). -/
def State.reset : State := State.resetWith Config.atReset

end Sys2Proof.Machine
end

