-- ==== Sys2Proof/Machine/Ops.lean ====
section
/-! DEFINITION. The named operations the meanings share: reading and writing the registers of a
component, the arithmetic laws of rule R90, the three functions of the pattern table (the only
memory, R50), and the recovery from a mismatch, which stands where a processor takes an exception
(R186); there is no return from it (R187). -/

namespace Sys2Proof.Machine

/-- What a step or a meaning answers. -/
abbrev Answer := Host.Outcome State Fault Refusal

/-- Apply `f` to the next state, if there is one; a fault or a refusal stays. -/
def andThen (o : Answer) (f : State → Answer) : Answer :=
  match o with
  | .next s => f s
  | .fault r => .fault r
  | .refused r => .refused r

/-! ## Registers of one component -/

/-- The registers of the detector of pattern `p`. -/
def State.det (s : State) : Pattern → Detector
  | .framing => s.detFraming
  | .trainA => s.detTrainA
  | .trainB => s.detTrainB

/-- Write the registers of the detector of pattern `p`. -/
def State.setDet (s : State) (p : Pattern) (d : Detector) : State :=
  match p with
  | .framing => { s with detFraming := d }
  | .trainA => { s with detTrainA := d }
  | .trainB => { s with detTrainB := d }

/-- The latches of the detector of pattern `p`; the FRAMING detector has none (R22). -/
def State.latches (s : State) : Pattern → Option LinkConfig
  | .framing => none
  | .trainA => some s.cfgTrainA
  | .trainB => some s.cfgTrainB

/-- Write the latches of the detector of pattern `p`, where they exist. -/
def State.setLatches (s : State) (p : Pattern) (l : LinkConfig) : State :=
  match p with
  | .framing => s
  | .trainA => { s with cfgTrainA := l }
  | .trainB => { s with cfgTrainB := l }

/-- The registers of an oscillator. -/
def State.osc (s : State) : OscId → Oscillator
  | .sequencer => s.seqOsc
  | .bare => s.bareOsc

/-- Write the registers of an oscillator. -/
def State.setOsc (s : State) (o : OscId) (x : Oscillator) : State :=
  match o with
  | .sequencer => { s with seqOsc := x }
  | .bare => { s with bareOsc := x }

/-- The pattern-table wires of a reader. -/
def State.wires (s : State) : Reader → PatWires
  | .detector .framing => s.wiresFraming
  | .detector .trainA => s.wiresTrainA
  | .detector .trainB => s.wiresTrainB
  | .emitter => s.wiresEmt

/-- Drive the pattern-table wires of a reader. -/
def State.setWires (s : State) (r : Reader) (w : PatWires) : State :=
  match r with
  | .detector .framing => { s with wiresFraming := w }
  | .detector .trainA => { s with wiresTrainA := w }
  | .detector .trainB => { s with wiresTrainB := w }
  | .emitter => { s with wiresEmt := w }

/-- The pattern a reader is built for (R50). -/
def State.readerPattern (s : State) : Reader → Pattern
  | .detector p => p
  | .emitter => s.config.emitPattern

/-- The cursor of a reader (R25, R50). -/
def State.readerAdr (s : State) : Reader → Nat
  | .detector p => (s.det p).adr
  | .emitter => s.emt.adr

/-! ## Arithmetic laws (R90) -/

/-- Modular increment: from `k - 1` the next value is 0. -/
def wrapIncr (k x : Nat) : Nat := (x + 1) % k

/-! ## The pattern table (R101 to R103) -/

/-- Whether index `adr` is inside the table of pattern `p` (R50). -/
def inTable (c : Config) (p : Pattern) (adr : Nat) : Bool := decide (adr < c.depth p)

/-- `PatRead(p, adr)` (R51, R101): word `adr` of the table. Outside the table, where no index can be
formed, a free value. -/
def patRead (c : Config) (p : Pattern) (adr : Nat) : Data :=
  match (c.table p).words[adr]? with
  | some w => w
  | none => Config.wordOutside p adr

/-- `exp_ctrl(p, adr)` (R75, R102): `FIRST_CTRL[p]` on word 0, else 0. -/
def expCtrl (c : Config) (p : Pattern) (adr : Nat) : Ctrl :=
  if adr = 0 then (c.table p).firstCtrl else 0

/-- `CFG_MASK` (R73). -/
def cfgMask : Data := 0xFFFF00FF

/-- `mask(p, adr)` (R73, R103). -/
def patMask (p : Pattern) (adr : Nat) : Data :=
  if p.hasCfg && adr == 1 then cfgMask else 0xFFFFFFFF

/-- The settled wires of a reader: the three functions at its cursor. -/
def State.patWires (s : State) (r : Reader) : PatWires :=
  { word := patRead s.config (s.readerPattern r) (s.readerAdr r)
    ctrl := expCtrl s.config (s.readerPattern r) (s.readerAdr r)
    mask := patMask (s.readerPattern r) (s.readerAdr r) }

/-- The state with the wires of all four readers settled. -/
def State.settled (s : State) : State :=
  { s with
    wiresFraming := s.patWires (.detector .framing)
    wiresTrainA := s.patWires (.detector .trainA)
    wiresTrainB := s.patWires (.detector .trainB)
    wiresEmt := s.patWires .emitter }

/-! ## Mismatch recovery (R186) -/

/-- The recovery from a mismatch of the detector of pattern `p` (R116, R186): it saves nothing,
transfers control nowhere, and changes exactly `adr <- 0` and `count <- 0`. -/
def recoverMismatch (s : State) (p : Pattern) : State := s.setDet p { adr := 0, count := 0 }

end Sys2Proof.Machine
end

