-- ==== Sys2Proof/Machine/Flags.lean ====
section
/-! DEFINITION. The status flags (R38): output predicates and latches, each a function of the state
only (R227). The core has no condition-code register. -/

namespace Sys2Proof.Machine

/-- A detector is saturated, which is its output `detected` (R113): `count == M-1`. -/
def State.detected (s : State) (p : Pattern) : Bool := (s.det p).count == s.config.mDet p - 1

/-- `reset_o` of a detector (R113); absent for FRAMING. -/
def State.resetO (s : State) (p : Pattern) : Option Bool := (s.latches p).map (·.reset)

/-- `loopback_o` of a detector (R113); absent for FRAMING. -/
def State.loopbackO (s : State) (p : Pattern) : Option Bool := (s.latches p).map (·.loopback)

/-- `scrambling_o` of a detector (R113); absent for FRAMING. -/
def State.scramblingO (s : State) (p : Pattern) : Option Bool := (s.latches p).map (·.scrambling)

/-- `sink_ready` of a detector: constant 1 (R23, R113). -/
def sinkReady : Bool := true

/-- `done` of the emitter (R131): `count == M-1`. -/
def State.emtDone (s : State) : Bool := s.emt.count == s.config.mEmit - 1

/-- `tx_idle` of an oscillator (R151): `not busy`. -/
def State.txIdle (s : State) (o : OscId) : Bool := !(s.osc o).busy

/-- `tx_pattern` of an oscillator (R151): `busy and level`. -/
def State.txPattern (s : State) (o : OscId) : Bool := (s.osc o).busy && (s.osc o).level

/-- `done` of an oscillator, `burst_done` of the sequencer (R151, R171): `done_q`. -/
def State.oscDone (s : State) (o : OscId) : Bool := (s.osc o).doneQ

end Sys2Proof.Machine
end

