-- ==== Sys2Proof/Machine/Operands.lean ====
section
/-! DEFINITION. The wires and operands of the operations (R24, R29, R36): what an operation reads
beside the registers of its own component. -/

namespace Sys2Proof.Machine

/-! ## Detector -/

/-- The wire `error` (R111) over given pattern-table wires: `ctrl` is compared on all its bits, `data`
under the mask; it is 0 whenever `sink_valid = 0`. -/
def errorOf (w : PatWires) (inp : Inputs) : Bool :=
  inp.sinkValid && (inp.sinkCtrl != w.ctrl || (inp.sinkData &&& w.mask) != (w.word &&& w.mask))

/-- The wire `error` of the detector of pattern `p` in this tick (R24, R111). -/
def State.errorWire (s : State) (p : Pattern) : Bool := errorOf (s.patWires (.detector p)) s.inputs

/-- `latch_en` (R82) over a given `error`: `sink_valid and (adr == 1) and not error`, with `adr` as at
the start of the tick (R62). -/
def State.latchEn (s : State) (p : Pattern) (error : Bool) : Bool :=
  s.inputs.sinkValid && (s.det p).adr == 1 && !error

/-- The flags a received config word carries (R72, R118): bits 8 and 10, and bit 11 inverted. -/
def receivedConfig (d : Data) : LinkConfig :=
  { reset := d.getLsbD 8, loopback := d.getLsbD 10, scrambling := !d.getLsbD 11 }

/-! ## Emitter -/

/-- `link_config` (R74): `{0b0000, !scrambling_i, loopback_i, 0b0, reset_i}`. -/
def linkConfig (inp : Inputs) : Byte :=
  (0 : BitVec 4) ++ BitVec.ofBool (!inp.scramblingI) ++ BitVec.ofBool inp.loopbackI
    ++ BitVec.ofBool false ++ BitVec.ofBool inp.resetI

/-- A word with its bits 15:8 replaced: `{w[31:16], b, w[7:0]}` (R133). -/
def substituteByte1 (w : Data) (b : Byte) : Data :=
  w.extractLsb' 16 16 ++ b ++ w.extractLsb' 0 8

/-- `source_data` (R133): the word at the cursor, the config byte substituted on word 1 of a pattern
with `HAS_CFG`. -/
def State.sourceData (s : State) : Data :=
  let w := (s.patWires .emitter).word
  if s.config.emitPattern.hasCfg && s.emt.adr == 1 then substituteByte1 w (linkConfig s.inputs) else w

/-- `source_ctrl` (R132). -/
def State.sourceCtrl (s : State) : Ctrl := (s.patWires .emitter).ctrl

/-- `source_valid` (R131): `send or not done`. -/
def State.sourceValid (s : State) : Bool := s.inputs.send || !s.emtDone

/-- `xfer` (R29, R131): a symbol is transferred this tick. -/
def State.xfer (s : State) : Bool := s.sourceValid && s.inputs.sourceReady

/-! ## Oscillator and sequencer -/

/-- `fire` (R36, R171): `(rep_cnt == 0) and polling`. -/
def State.fire (s : State) : Bool := s.repCnt == 0 && s.inputs.polling

/-- The `rst` input of an oscillator; the wrapped one has the sequencer's (R36). -/
def State.oscRst (s : State) : OscId → Bool
  | .sequencer => s.inputs.rst
  | .bare => s.inputs.oscRst

/-- The `start` input of an oscillator; the wrapped one has `fire` (R36). -/
def State.oscStart (s : State) : OscId → Bool
  | .sequencer => s.fire
  | .bare => s.inputs.oscStart

/-- The `length` input of an oscillator; the wrapped one has the constant `L` (R36). -/
def State.oscLength (s : State) : OscId → BurstTicks
  | .sequencer => BitVec.ofNat 32 s.config.burstLength
  | .bare => s.inputs.oscLength

end Sys2Proof.Machine
end

