-- ==== Sys2Proof/Machine/Detector.lean ====
section
/-! DEFINITION. Families DET and DETL: the OrderedSetDetector (R112 to R120). -/

namespace Sys2Proof.Machine

/-- DET.RESET (R117): `adr <- 0; count <- 0`. -/
def execDetReset (p : Pattern) (s : State) : Answer := .next (s.setDet p Detector.reset)

/-- DET.HOLD (R112): no assignment. -/
def execDetHold (_p : Pattern) (s : State) : Answer := .next s

/-- DET.MISMATCH (R116): the detector recovers; the latches are not touched (C4). -/
def execDetMismatch (p : Pattern) (s : State) : Answer := .next (recoverMismatch s p)

/-- DET.MATCH (R114): `adr <- (adr + 1) mod DEPTH; count <- count + 1`. -/
def execDetMatch (p : Pattern) (s : State) : Answer :=
  .next (s.setDet p
    { adr := wrapIncr (s.config.depth p) (s.det p).adr, count := (s.det p).count + 1 })

/-- DET.MATCH_SAT (R115): `adr <- (adr + 1) mod DEPTH`; `count` keeps `M-1`. -/
def execDetMatchSat (p : Pattern) (s : State) : Answer :=
  .next (s.setDet p { s.det p with adr := wrapIncr (s.config.depth p) (s.det p).adr })

/-- A DETL operation: it writes `l` to the latches, which exist only when `HAS_CFG[p]` (R82). -/
def writeLatches (p : Pattern) (l : LinkConfig) (s : State) : Answer :=
  if p.hasCfg then .next (s.setLatches p l) else .refused .groupAbsent

/-- DETL.RESET (R120): the three latches are cleared. -/
def execDetlReset (p : Pattern) (s : State) : Answer := writeLatches p LinkConfig.cleared s

/-- DETL.LATCH (R118): the latches take bits 8, 10 and inverted 11 of `sink_data`. -/
def execDetlLatch (p : Pattern) (s : State) : Answer :=
  writeLatches p (receivedConfig s.inputs.sinkData) s

/-- DETL.KEEP (R119): no assignment. -/
def execDetlKeep (p : Pattern) (s : State) : Answer :=
  if p.hasCfg then .next s else .refused .groupAbsent

end Sys2Proof.Machine
end

