-- ==== Sys2Proof/Machine/Emitter.lean ====
section
/-! DEFINITION. Family EMT: the OrderedSetEmitter (R137 to R141). -/

namespace Sys2Proof.Machine

/-- The emitter after the symbol that starts an emission (R138): `run <- 1; count <- 0`. -/
def startedEmitter (adr : Nat) : Emitter := { adr := adr, count := 0, run := true }

/-- The emitter after a further symbol of an emission (R139): `count <- count + 1`, `run` kept. -/
def State.emtCounted (s : State) (adr : Nat) : Emitter :=
  { adr := adr, count := s.emt.count + 1, run := s.emt.run }

/-- The cursor after a transfer (R136). -/
def State.emtNextAdr (s : State) : Nat := wrapIncr s.config.emitDepth s.emt.adr

/-- A symbol offered and not accepted (R140): refuse, keep everything, or restart the pattern with
`restarted`, as `EMIT_STALL_POLICY` says. -/
def stallEmitter (restarted : Emitter) (s : State) : Answer :=
  match s.config.stallPolicy with
  | .refuse => .refused .emitterStalled
  | .hold => .next s
  | .restart => .next { s with emt := restarted }

/-- EMT.RESET (R141): `adr <- 0; count <- M-1; run <- 0`. -/
def execEmtReset (s : State) : Answer := .next { s with emt := Emitter.reset s.config.mEmit }

/-- EMT.IDLE (R137): `adr <- 0; run <- 0`; `count` keeps `M-1`. -/
def execEmtIdle (s : State) : Answer := .next { s with emt := { s.emt with adr := 0, run := false } }

/-- EMT.START (R138): the cursor advances, `run <- 1; count <- 0`. -/
def execEmtStart (s : State) : Answer := .next { s with emt := startedEmitter s.emtNextAdr }

/-- EMT.RUN (R139): the cursor advances, `count <- count + 1`. -/
def execEmtRun (s : State) : Answer := .next { s with emt := s.emtCounted s.emtNextAdr }

/-- EMT.STALL_START (R140): under `restart`, `adr <- 0` and the rest as EMT.START. -/
def execEmtStallStart (s : State) : Answer := stallEmitter (startedEmitter 0) s

/-- EMT.STALL_RUN (R140): under `restart`, `adr <- 0` and the rest as EMT.RUN. -/
def execEmtStallRun (s : State) : Answer := stallEmitter (s.emtCounted 0) s

end Sys2Proof.Machine
end

