-- ==== Sys2Proof/Machine/Oscillator.lean ====
section
/-! DEFINITION. Families OSC and WAVE: the BurstOscillator (R153 to R161). -/

namespace Sys2Proof.Machine

/-- OSC.RESET (R160): `busy <- 0; remaining <- 0; done_q <- 0`. -/
def execOscReset (o : OscId) (s : State) : Answer :=
  .next (s.setOsc o { s.osc o with busy := false, remaining := 0, doneQ := false })

/-- OSC.IDLE (R155): `done_q <- 0`. -/
def execOscIdle (o : OscId) (s : State) : Answer := .next (s.setOsc o { s.osc o with doneQ := false })

/-- OSC.START (R156): `busy <- 1; remaining <- length; done_q <- 0`. -/
def execOscStart (o : OscId) (s : State) : Answer :=
  .next (s.setOsc o { s.osc o with busy := true, remaining := s.oscLength o, doneQ := false })

/-- OSC.START0 (R157): `done_q <- 1`; no active tick. -/
def execOscStartZero (o : OscId) (s : State) : Answer :=
  .next (s.setOsc o { s.osc o with doneQ := true })

/-- OSC.RUN (R158): `remaining <- remaining - 1; done_q <- 0`. The decrement is guarded (R90): on
`remaining = 0`, which no rule gives a meaning (R88, R164), the machine is stuck. -/
def execOscRun (o : OscId) (s : State) : Answer :=
  if (s.osc o).remaining = 0 then .fault .unreachableState
  else .next (s.setOsc o { s.osc o with remaining := (s.osc o).remaining - 1, doneQ := false })

/-- OSC.LAST (R159): `busy <- 0; remaining <- 0; done_q <- 1`. -/
def execOscLast (o : OscId) (s : State) : Answer :=
  .next (s.setOsc o { s.osc o with busy := false, remaining := 0, doneQ := true })

/-- WAVE.RESET (R160): `half_cnt <- 0; level <- 0`. -/
def execWaveReset (o : OscId) (s : State) : Answer :=
  .next (s.setOsc o { s.osc o with halfCnt := 0, level := false })

/-- WAVE.COUNT (R153): `half_cnt <- half_cnt + 1`. -/
def execWaveCount (o : OscId) (s : State) : Answer :=
  .next (s.setOsc o { s.osc o with halfCnt := (s.osc o).halfCnt + 1 })

/-- WAVE.TOGGLE (R154): `half_cnt <- 0; level <- !level`. -/
def execWaveToggle (o : OscId) (s : State) : Answer :=
  .next (s.setOsc o { s.osc o with halfCnt := 0, level := !(s.osc o).level })

end Sys2Proof.Machine
end

