-- ==== Sys2Proof/Machine/Pattern.lean ====
section
/-! DEFINITION. Family PAT: the three functions of the pattern table that every detector and the
emitter evaluate in each tick (R87). Each drives one wire of its reader and changes no register. -/

namespace Sys2Proof.Machine

/-- PAT.READ (R101): the reader's word wire carries `WORDS[p][adr]`. An index outside the table cannot
be formed (R51). -/
def execPatRead (r : Reader) (s : State) : Answer :=
  if inTable s.config (s.readerPattern r) (s.readerAdr r) then
    .next (s.setWires r { s.wires r with word := patRead s.config (s.readerPattern r) (s.readerAdr r) })
  else .fault .addressOutsideTable

/-- PAT.CTRL (R102): the reader's `ctrl` wire carries `exp_ctrl(p, adr)`. -/
def execPatCtrl (r : Reader) (s : State) : Answer :=
  .next (s.setWires r { s.wires r with ctrl := expCtrl s.config (s.readerPattern r) (s.readerAdr r) })

/-- PAT.MASK (R103): the reader's mask wire carries `mask(p, adr)`. -/
def execPatMask (r : Reader) (s : State) : Answer :=
  .next (s.setWires r { s.wires r with mask := patMask (s.readerPattern r) (s.readerAdr r) })

end Sys2Proof.Machine
end

