-- ==== Sys2Proof/Machine/Sequencer.lean ====
section
/-! DEFINITION. Family SEQ: the BurstSequencer (R172 to R176). What its wrapped oscillator does in the
same tick are OSC and WAVE operations of their own, with `start = fire`, `length = L` and the
sequencer's `rst` (R36, R86). -/

namespace Sys2Proof.Machine

/-- SEQ.RESET (R176): `rep_cnt <- 0`. -/
def execSeqReset (s : State) : Answer := .next { s with repCnt := 0 }

/-- SEQ.WAIT (R172): no assignment. -/
def execSeqWait (s : State) : Answer := .next s

/-- SEQ.FIRE (R173): `rep_cnt <- 1`. -/
def execSeqFire (s : State) : Answer := .next { s with repCnt := 1 }

/-- SEQ.COUNT (R174): `rep_cnt <- rep_cnt + 1`. -/
def execSeqCount (s : State) : Answer := .next { s with repCnt := s.repCnt + 1 }

/-- SEQ.WRAP (R175): `rep_cnt <- 0`. -/
def execSeqWrap (s : State) : Answer := .next { s with repCnt := 0 }

end Sys2Proof.Machine
end

