-- ==== Sys2Proof/Machine/Dispatch.lean ====
section
/-! DEFINITION. One arm per operation, each one direct call of its meaning. -/

namespace Sys2Proof.Machine

def exec (i : Instr) (s : State) : Host.Outcome State Fault Refusal :=
  match i with
  | .detReset p => Sys2Proof.Machine.execDetReset p s
  | .detHold p => Sys2Proof.Machine.execDetHold p s
  | .detMismatch p => Sys2Proof.Machine.execDetMismatch p s
  | .detMatch p => Sys2Proof.Machine.execDetMatch p s
  | .detMatchSat p => Sys2Proof.Machine.execDetMatchSat p s
  | .detlReset p => Sys2Proof.Machine.execDetlReset p s
  | .detlLatch p => Sys2Proof.Machine.execDetlLatch p s
  | .detlKeep p => Sys2Proof.Machine.execDetlKeep p s
  | .emtReset => Sys2Proof.Machine.execEmtReset s
  | .emtIdle => Sys2Proof.Machine.execEmtIdle s
  | .emtStart => Sys2Proof.Machine.execEmtStart s
  | .emtRun => Sys2Proof.Machine.execEmtRun s
  | .emtStallStart => Sys2Proof.Machine.execEmtStallStart s
  | .emtStallRun => Sys2Proof.Machine.execEmtStallRun s
  | .oscReset o => Sys2Proof.Machine.execOscReset o s
  | .oscIdle o => Sys2Proof.Machine.execOscIdle o s
  | .oscStart o => Sys2Proof.Machine.execOscStart o s
  | .oscStartZero o => Sys2Proof.Machine.execOscStartZero o s
  | .oscRun o => Sys2Proof.Machine.execOscRun o s
  | .oscLast o => Sys2Proof.Machine.execOscLast o s
  | .waveReset o => Sys2Proof.Machine.execWaveReset o s
  | .waveCount o => Sys2Proof.Machine.execWaveCount o s
  | .waveToggle o => Sys2Proof.Machine.execWaveToggle o s
  | .seqReset => Sys2Proof.Machine.execSeqReset s
  | .seqWait => Sys2Proof.Machine.execSeqWait s
  | .seqFire => Sys2Proof.Machine.execSeqFire s
  | .seqCount => Sys2Proof.Machine.execSeqCount s
  | .seqWrap => Sys2Proof.Machine.execSeqWrap s
  | .patRead r => Sys2Proof.Machine.execPatRead r s
  | .patCtrl r => Sys2Proof.Machine.execPatCtrl r s
  | .patMask r => Sys2Proof.Machine.execPatMask r s

end Sys2Proof.Machine
end

