-- ==== Sys2Proof/Decode.lean ====
section
/-! DEFINITION. Select vectors (R80 to R87): the decoder of each group, and the encoder after it.
A vector is stored as one byte whose bit 0 is the vector's last bit, the unused high bits 0; the
three pattern functions have the empty vector and so no byte. Which group a vector belongs to is
not in the vector: it is the group the component fetches it for, the `Slot`. -/

namespace Sys2Proof

/-- One row of a select table: the decoded bits (`mask`), their values (`value`), the operation. -/
structure SelectRow (α : Type) where
  mask : Byte
  value : Byte
  op : α → Instr

/-- Group DET, vector `{rst, valid, error, sat}` (R81). -/
def detRows : List (SelectRow Pattern) :=
  [ { mask := 0x8, value := 0x8, op := .detReset },
    { mask := 0xC, value := 0x0, op := .detHold },
    { mask := 0xE, value := 0x6, op := .detMismatch },
    { mask := 0xF, value := 0x4, op := .detMatch },
    { mask := 0xF, value := 0x5, op := .detMatchSat } ]

/-- Group DETL, vector `{rst, latch_en}` (R82). -/
def detlRows : List (SelectRow Pattern) :=
  [ { mask := 0x2, value := 0x2, op := .detlReset },
    { mask := 0x3, value := 0x1, op := .detlLatch },
    { mask := 0x3, value := 0x0, op := .detlKeep } ]

/-- Group EMT, vector `{rst, done, send, ready}` (R83). -/
def emtRows : List (SelectRow Unit) :=
  [ { mask := 0x8, value := 0x8, op := fun _ => .emtReset },
    { mask := 0xE, value := 0x4, op := fun _ => .emtIdle },
    { mask := 0xF, value := 0x7, op := fun _ => .emtStart },
    { mask := 0xD, value := 0x1, op := fun _ => .emtRun },
    { mask := 0xF, value := 0x6, op := fun _ => .emtStallStart },
    { mask := 0xD, value := 0x0, op := fun _ => .emtStallRun } ]

/-- Group OSC, vector `{rst, busy, last, start, lenz}` (R84). -/
def oscRows : List (SelectRow OscId) :=
  [ { mask := 0x10, value := 0x10, op := .oscReset },
    { mask := 0x1A, value := 0x00, op := .oscIdle },
    { mask := 0x1B, value := 0x02, op := .oscStart },
    { mask := 0x1B, value := 0x03, op := .oscStartZero },
    { mask := 0x1C, value := 0x08, op := .oscRun },
    { mask := 0x1C, value := 0x0C, op := .oscLast } ]

/-- Group WAVE, vector `{rst, wrap}` (R85). -/
def waveRows : List (SelectRow OscId) :=
  [ { mask := 0x2, value := 0x2, op := .waveReset },
    { mask := 0x3, value := 0x0, op := .waveCount },
    { mask := 0x3, value := 0x1, op := .waveToggle } ]

/-- Group SEQ, vector `{rst, zero, polling, wrap}` (R86). -/
def seqRows : List (SelectRow Unit) :=
  [ { mask := 0x8, value := 0x8, op := fun _ => .seqReset },
    { mask := 0xE, value := 0x4, op := fun _ => .seqWait },
    { mask := 0xE, value := 0x6, op := fun _ => .seqFire },
    { mask := 0xD, value := 0x0, op := fun _ => .seqCount },
    { mask := 0xD, value := 0x1, op := fun _ => .seqWrap } ]

/-- The number of bits of a group's select vector (R81 to R87). -/
def Slot.width : Slot → Nat
  | .det _ => 4
  | .detl _ => 2
  | .emt => 4
  | .osc _ => 5
  | .wave _ => 2
  | .seq => 4
  | .patRead _ => 0
  | .patCtrl _ => 0
  | .patMask _ => 0

/-- Why bytes are not a select vector of a group. -/
inductive DecodeError where
  /-- No byte was given to a group whose vector is not empty. -/
  | noVector
  /-- More bytes were given than the group's vector has. -/
  | extraBytes
  /-- A bit above the vector's width is set. -/
  | vectorTooWide
  /-- No row of the group matches; the tables cover every vector (R80), so this never happens. -/
  | noRow
  /-- The component has no such group: DETL without `HAS_CFG` (R82). -/
  | groupAbsent
  deriving DecidableEq, Repr

/-- The operation of the first row that matches. The rows of one group are mutually exclusive (R80). -/
def matchRows {α : Type} (rows : List (SelectRow α)) (a : α) (v : Byte) : Except DecodeError Instr :=
  match rows with
  | [] => .error .noRow
  | r :: rest => if v &&& r.mask = r.value then .ok (r.op a) else matchRows rest a v

/-- Decode a group whose vector has `width` bits. -/
def decodeRows {α : Type} (width : Nat) (rows : List (SelectRow α)) (a : α) :
    List Byte → Except DecodeError Instr
  | [] => .error .noVector
  | [v] => if v.toNat < 2 ^ width then matchRows rows a v else .error .vectorTooWide
  | _ :: _ :: _ => .error .extraBytes

/-- Decode a group whose vector is empty (R87). -/
def decodeEmpty (i : Instr) : List Byte → Except DecodeError Instr
  | [] => .ok i
  | _ :: _ => .error .extraBytes

/-- The decoder: total on any bytes, rejecting by name. -/
def decode (slot : Slot) (bytes : List Byte) : Except DecodeError Instr :=
  match slot with
  | .det p => decodeRows 4 detRows p bytes
  | .detl p => if p.hasCfg then decodeRows 2 detlRows p bytes else .error .groupAbsent
  | .emt => decodeRows 4 emtRows () bytes
  | .osc o => decodeRows 5 oscRows o bytes
  | .wave o => decodeRows 2 waveRows o bytes
  | .seq => decodeRows 4 seqRows () bytes
  | .patRead r => decodeEmpty (.patRead r) bytes
  | .patCtrl r => decodeEmpty (.patCtrl r) bytes
  | .patMask r => decodeEmpty (.patMask r) bytes

/-- The group of the component an operation belongs to. -/
def Instr.slot : Instr → Slot
  | .detReset p => .det p
  | .detHold p => .det p
  | .detMismatch p => .det p
  | .detMatch p => .det p
  | .detMatchSat p => .det p
  | .detlReset p => .detl p
  | .detlLatch p => .detl p
  | .detlKeep p => .detl p
  | .emtReset => .emt
  | .emtIdle => .emt
  | .emtStart => .emt
  | .emtRun => .emt
  | .emtStallStart => .emt
  | .emtStallRun => .emt
  | .oscReset o => .osc o
  | .oscIdle o => .osc o
  | .oscStart o => .osc o
  | .oscStartZero o => .osc o
  | .oscRun o => .osc o
  | .oscLast o => .osc o
  | .waveReset o => .wave o
  | .waveCount o => .wave o
  | .waveToggle o => .wave o
  | .seqReset => .seq
  | .seqWait => .seq
  | .seqFire => .seq
  | .seqCount => .seq
  | .seqWrap => .seq
  | .patRead r => .patRead r
  | .patCtrl r => .patCtrl r
  | .patMask r => .patMask r

/-- The bits of the select vector that the operation's row decodes (its `-` positions are 0). -/
def Instr.decodedBits : Instr → Byte
  | .detReset _ => 0x8
  | .detHold _ => 0xC
  | .detMismatch _ => 0xE
  | .detMatch _ => 0xF
  | .detMatchSat _ => 0xF
  | .detlReset _ => 0x2
  | .detlLatch _ => 0x3
  | .detlKeep _ => 0x3
  | .emtReset => 0x8
  | .emtIdle => 0xE
  | .emtStart => 0xF
  | .emtRun => 0xD
  | .emtStallStart => 0xF
  | .emtStallRun => 0xD
  | .oscReset _ => 0x10
  | .oscIdle _ => 0x1A
  | .oscStart _ => 0x1B
  | .oscStartZero _ => 0x1B
  | .oscRun _ => 0x1C
  | .oscLast _ => 0x1C
  | .waveReset _ => 0x2
  | .waveCount _ => 0x3
  | .waveToggle _ => 0x3
  | .seqReset => 0x8
  | .seqWait => 0xE
  | .seqFire => 0xE
  | .seqCount => 0xD
  | .seqWrap => 0xD
  | .patRead _ => 0x0
  | .patCtrl _ => 0x0
  | .patMask _ => 0x0

/-- The encoder: the select vector of an operation, its undecoded bits 0, as R81 to R87 write it. -/
def encode : Instr → List Byte
  | .detReset _ => [0x8]
  | .detHold _ => [0x0]
  | .detMismatch _ => [0x6]
  | .detMatch _ => [0x4]
  | .detMatchSat _ => [0x5]
  | .detlReset _ => [0x2]
  | .detlLatch _ => [0x1]
  | .detlKeep _ => [0x0]
  | .emtReset => [0x8]
  | .emtIdle => [0x4]
  | .emtStart => [0x7]
  | .emtRun => [0x1]
  | .emtStallStart => [0x6]
  | .emtStallRun => [0x0]
  | .oscReset _ => [0x10]
  | .oscIdle _ => [0x0]
  | .oscStart _ => [0x2]
  | .oscStartZero _ => [0x3]
  | .oscRun _ => [0x8]
  | .oscLast _ => [0xC]
  | .waveReset _ => [0x2]
  | .waveCount _ => [0x0]
  | .waveToggle _ => [0x1]
  | .seqReset => [0x8]
  | .seqWait => [0x4]
  | .seqFire => [0x6]
  | .seqCount => [0x0]
  | .seqWrap => [0x1]
  | .patRead _ => []
  | .patCtrl _ => []
  | .patMask _ => []

/-- The groups a bare table word is tried against, in the table's order. The word names neither its
group nor its component (notes/assumptions/5.md), so one component stands for each group. -/
def tableSlots : List Slot :=
  [.det .trainA, .detl .trainA, .emt, .osc .bare, .wave .bare, .seq]

/-- Whether the byte is, in that group, an operation's own encoding (undecoded bits 0). -/
def isCanonical (v : Byte) (slot : Slot) : Bool :=
  match decode slot [v] with
  | .ok i => encode i == [v]
  | .error _ => false

/-- Whether a table word of `nbits` bits may be a vector of that group: the group's own width, or a
whole byte. -/
def fitsTable (nbits : Nat) (slot : Slot) : Bool := nbits == 8 || nbits == slot.width

/-- The group taken for a bare table word: the first in which it is an operation's own encoding, else
the first that decodes it. -/
def tableSlot (nbits : Nat) (v : Byte) : Option Slot :=
  match tableSlots.find? (fun g => fitsTable nbits g && isCanonical v g) with
  | some g => some g
  | none => tableSlots.find? (fun g => fitsTable nbits g && (decode g [v]).toBool)

/-- The instruction the decoder reads from a word of the opcode table, numbered as the table numbers
its bits. An empty word is the first of the three empty vectors, PAT.READ. -/
def decodeTableWord (nbits w : Nat) : Option Instr :=
  if nbits = 0 then (decode (.patRead (.detector .trainA)) []).toOption
  else if w < 256 then
    match tableSlot nbits (BitVec.ofNat 8 w) with
    | some g => (decode g [BitVec.ofNat 8 w]).toOption
    | none => none
  else none

end Sys2Proof
end

