-- ==== Sys2Proof/Machine/Select.lean ====
section
/-! DEFINITION. Fetching: the select vector of each group (R81 to R87), made from the inputs of the
tick and the state at its start. The detectors' bit `error` reads the pattern-table wires, which the
PAT operations of the tick drive first. -/

namespace Sys2Proof.Machine

/-- A vector as one byte, its bits given most significant first. -/
def vectorByte (bits : List Bool) : Byte :=
  BitVec.ofNat 8 (bits.foldl (fun n b => 2 * n + b.toNat) 0)

/-- `{rst, valid, error, sat}` (R81). -/
def State.detVector (s : State) (p : Pattern) : Byte :=
  vectorByte [s.inputs.rst, s.inputs.sinkValid, errorOf (s.wires (.detector p)) s.inputs, s.detected p]

/-- `{rst, latch_en}` (R82). -/
def State.detlVector (s : State) (p : Pattern) : Byte :=
  vectorByte [s.inputs.rst, s.latchEn p (errorOf (s.wires (.detector p)) s.inputs)]

/-- `{rst, done, send, ready}` (R83). -/
def State.emtVector (s : State) : Byte :=
  vectorByte [s.inputs.rst, s.emtDone, s.inputs.send, s.inputs.sourceReady]

/-- `{rst, busy, last, start, lenz}` (R84). -/
def State.oscVector (s : State) (o : OscId) : Byte :=
  vectorByte [s.oscRst o, (s.osc o).busy, (s.osc o).remaining == 1, s.oscStart o, s.oscLength o == 0]

/-- `{rst, wrap}` (R85). -/
def State.waveVector (s : State) (o : OscId) : Byte :=
  vectorByte [s.oscRst o, (s.osc o).halfCnt == s.config.half - 1]

/-- `{rst, zero, polling, wrap}` (R86). -/
def State.seqVector (s : State) : Byte :=
  vectorByte [s.inputs.rst, s.repCnt == 0, s.inputs.polling, s.repCnt == s.config.burstPeriod - 1]

/-- The bytes fetched for a group: its select vector, or none where the vector is empty (R87). -/
def fetch (s : State) : Slot → List Byte
  | .det p => [s.detVector p]
  | .detl p => [s.detlVector p]
  | .emt => [s.emtVector]
  | .osc o => [s.oscVector o]
  | .wave o => [s.waveVector o]
  | .seq => [s.seqVector]
  | .patRead _ => []
  | .patCtrl _ => []
  | .patMask _ => []

/-- The operation a group performs in this tick (R80): the decoding of its vector, the wires settled. -/
def State.selected (s : State) (slot : Slot) : Except DecodeError Instr :=
  decode slot (fetch s.settled slot)

end Sys2Proof.Machine
end

