-- ==== Sys2Proof/Machine/Tick.lean ====
section
/-! DEFINITION. One tick (R9, R60, R80): every component performs one operation of each of its groups,
chosen by the state at the start of the tick and the inputs of the tick, and all take effect
together. First the pattern-table functions settle the wires; then all the select vectors are
fetched and decoded from that one state; then the operations are performed, each on the registers
of its own group, so their order does not matter; then the boundary to the next tick. -/

namespace Sys2Proof.Machine

/-! ## What a tick needs of the state (R88) -/

/-- The registers of the detector of pattern `p` are in their ranges (R22). -/
def State.detInRange (s : State) (p : Pattern) : Bool :=
  decide ((s.det p).adr < s.config.depth p) && decide ((s.det p).count < s.config.mDet p)

/-- The registers of the emitter are in their ranges (R27). -/
def State.emtInRange (s : State) : Bool :=
  decide (s.emt.adr < s.config.emitDepth) && decide (s.emt.count < s.config.mEmit)

/-- The registers of an oscillator are in their ranges (R31), and not `busy = 1` with `remaining = 0`,
which has no defined behaviour (R164). -/
def State.oscInRange (s : State) (o : OscId) : Bool :=
  decide ((s.osc o).halfCnt < s.config.half) && !((s.osc o).busy && (s.osc o).remaining == 0)

/-- No register holds a value that no rule gives a meaning (R88). -/
def State.inRange (s : State) : Bool :=
  s.detInRange .framing && s.detInRange .trainA && s.detInRange .trainB && s.emtInRange
    && s.oscInRange .sequencer && s.oscInRange .bare && decide (s.repCnt < s.config.burstPeriod)

/-! ## The groups of the machine -/

/-- The pattern-table functions of every reader (R87). -/
def patSlots : List Slot :=
  [ .patRead (.detector .framing), .patCtrl (.detector .framing), .patMask (.detector .framing),
    .patRead (.detector .trainA), .patCtrl (.detector .trainA), .patMask (.detector .trainA),
    .patRead (.detector .trainB), .patCtrl (.detector .trainB), .patMask (.detector .trainB),
    .patRead .emitter, .patCtrl .emitter, .patMask .emitter ]

/-- The operation groups that write registers (R81 to R86). -/
def groupSlots : List Slot :=
  [ .det .framing, .det .trainA, .det .trainB, .detl .trainA, .detl .trainB, .emt, .seq,
    .osc .sequencer, .wave .sequencer, .osc .bare, .wave .bare ]

/-! ## Performing operations -/

/-- Perform operations one after another, stopping at the first fault or refusal. -/
def execAll : List Instr → State → Answer
  | [], s => .next s
  | i :: rest, s => andThen (exec i s) (execAll rest)

/-- Fetch and decode the vectors of groups, all from the one state `s`. -/
def decodeAll (s : State) : List Slot → Except DecodeError (List Instr)
  | [] => .ok []
  | g :: rest =>
    match decode g (fetch s g) with
    | .error e => .error e
    | .ok i =>
      match decodeAll s rest with
      | .error e => .error e
      | .ok is => .ok (i :: is)

/-- Perform the operations that groups select in the state `s`. -/
def perform (groups : List Slot) (s : State) : Answer :=
  match decodeAll s groups with
  | .ok is => execAll is s
  | .error _ => .refused .badSelectVector

/-- The boundary to the next tick (R9): the tick number goes up, and the lines take what the
environment presents next, a free value where nothing is known of it. -/
def boundary (s : State) : State :=
  { s with
    inputs := s.pending.headD (Config.freeInputs (s.tick + 1))
    pending := s.pending.tail
    tick := s.tick + 1 }

/-- One tick of a machine that can be built (R7) and whose registers are in their ranges (R88). -/
def tick (s : State) : Answer :=
  if s.config.wellFormed then
    if s.inRange then
      andThen (andThen (perform patSlots s) (perform groupSlots)) fun t => .next (boundary t)
    else .fault .unreachableState
  else .refused .illFormedConfig

end Sys2Proof.Machine
end

