-- ==== Sys2Proof/Machine/Place.lean ====
section
/-! DEFINITION. Making a machine select a given operation in its very next tick: the inputs and the
registers that the operation's select vector names (R81 to R86) take the values it decodes, and
nothing else changes. There is no program store: this stands for the environment driving the
lines and for the history that left the registers as they are (notes/assumptions/5.md). -/

namespace Sys2Proof.Machine

/-- Present the symbol the detector of pattern `p` expects at index `adr`. -/
def presentExpected (s : State) (p : Pattern) (adr : Nat) : State :=
  { s with
    inputs := { s.inputs with
      rst := false
      sinkValid := true
      sinkData := patRead s.config p adr
      sinkCtrl := expCtrl s.config p adr } }

/-- A counter value that is not `m - 1`: the one it has, or 0. -/
def belowMax (m x : Nat) : Nat := if x = m - 1 then 0 else x

/-- Set the `rst` line of an oscillator. -/
def State.setOscRst (s : State) (o : OscId) (b : Bool) : State :=
  match o with
  | .sequencer => { s with inputs := { s.inputs with rst := b } }
  | .bare => { s with inputs := { s.inputs with oscRst := b } }

/-- Drive the request of an oscillator: `polling` on an armed sequencer, or `start`; low when `b` is
false. -/
def State.setOscRequest (s : State) (o : OscId) (b : Bool) : State :=
  match o with
  | .sequencer =>
    { s with repCnt := if b then 0 else s.repCnt, inputs := { s.inputs with polling := b } }
  | .bare => { s with inputs := { s.inputs with oscStart := b } }

/-- Drive the `length` line of the oscillator that stands alone. -/
def State.setOscLength (s : State) (o : OscId) (n : BurstTicks) : State :=
  match o with
  | .sequencer => s
  | .bare => { s with inputs := { s.inputs with oscLength := n } }

/-- Set `busy` and `remaining` of an oscillator. -/
def State.setBurst (s : State) (o : OscId) (busy : Bool) (remaining : BurstTicks) : State :=
  s.setOsc o { s.osc o with busy := busy, remaining := remaining }

/-- Drive the emitter's `send` and `source_ready`, with `rst` low. -/
def State.setEmtLines (s : State) (send ready : Bool) : State :=
  { s with inputs := { s.inputs with rst := false, send := send, sourceReady := ready } }

/-- Set the emitter's `count`. -/
def State.setEmtCount (s : State) (n : Nat) : State := { s with emt := { s.emt with count := n } }

/-- Set the sequencer's `rep_cnt` and its `polling` line, with `rst` low. -/
def State.setSeq (s : State) (rep : Nat) (polling : Bool) : State :=
  { s with repCnt := rep, inputs := { s.inputs with rst := false, polling := polling } }

/-- The machine made to select `i`. -/
def place (i : Instr) (s : State) : State :=
  match i with
  | .detReset _ => { s with inputs := { s.inputs with rst := true } }
  | .detHold _ => { s with inputs := { s.inputs with rst := false, sinkValid := false } }
  | .detMismatch p =>
    let t := presentExpected s p (s.det p).adr
    { t with inputs := { t.inputs with sinkCtrl := t.inputs.sinkCtrl ^^^ 1 } }
  | .detMatch p =>
    presentExpected (s.setDet p { s.det p with count := belowMax (s.config.mDet p) (s.det p).count })
      p (s.det p).adr
  | .detMatchSat p =>
    presentExpected (s.setDet p { s.det p with count := s.config.mDet p - 1 }) p (s.det p).adr
  | .detlReset _ => { s with inputs := { s.inputs with rst := true } }
  | .detlLatch p => presentExpected (s.setDet p { s.det p with adr := 1 }) p 1
  | .detlKeep _ => { s with inputs := { s.inputs with rst := false, sinkValid := false } }
  | .emtReset => { s with inputs := { s.inputs with rst := true } }
  | .emtIdle => (s.setEmtCount (s.config.mEmit - 1)).setEmtLines false s.inputs.sourceReady
  | .emtStart => (s.setEmtCount (s.config.mEmit - 1)).setEmtLines true true
  | .emtRun => (s.setEmtCount (belowMax s.config.mEmit s.emt.count)).setEmtLines s.inputs.send true
  | .emtStallStart => (s.setEmtCount (s.config.mEmit - 1)).setEmtLines true false
  | .emtStallRun =>
    (s.setEmtCount (belowMax s.config.mEmit s.emt.count)).setEmtLines s.inputs.send false
  | .oscReset o => s.setOscRst o true
  | .oscIdle o => ((s.setOscRst o false).setBurst o false 0).setOscRequest o false
  | .oscStart o =>
    (((s.setOscRst o false).setBurst o false 0).setOscRequest o true).setOscLength o 1
  | .oscStartZero o =>
    (((s.setOscRst o false).setBurst o false 0).setOscRequest o true).setOscLength o 0
  | .oscRun o => (s.setOscRst o false).setBurst o true 2
  | .oscLast o => (s.setOscRst o false).setBurst o true 1
  | .waveReset o => s.setOscRst o true
  | .waveCount o =>
    (s.setOscRst o false).setOsc o
      { s.osc o with halfCnt := belowMax s.config.half (s.osc o).halfCnt }
  | .waveToggle o => (s.setOscRst o false).setOsc o { s.osc o with halfCnt := s.config.half - 1 }
  | .seqReset => { s with inputs := { s.inputs with rst := true } }
  | .seqWait => s.setSeq 0 false
  | .seqFire => s.setSeq 0 true
  | .seqCount => s.setSeq 1 s.inputs.polling
  | .seqWrap => s.setSeq (s.config.burstPeriod - 1) s.inputs.polling
  | .patRead _ => s
  | .patCtrl _ => s
  | .patMask _ => s

/-- The machine made to select the operation a word of the opcode table stands for; unchanged where
the word stands for none. -/
def placeWord (nbits w : Nat) (s : State) : State :=
  match decodeTableWord nbits w with
  | some i => place i s
  | none => s

end Sys2Proof.Machine
end

