-- ==== Sys2Proof/Machine/Step.lean ====
section
/-! DEFINITION. One step of the machine is one tick (R9: "every component's state transition function
is invoked exactly once per tick"). -/

namespace Sys2Proof.Machine

/-- One tick. -/
def step (s : State) : Host.Outcome State Fault Refusal := tick s

/-- The state whose very next step performs the operation of a word of the opcode table. -/
def State.withFetchWord (s : State) (nbits w : Nat) : State := placeWord nbits w s

end Sys2Proof.Machine
end

