-- ==== Sys2Proof/Machine/Whole.lean ====
section
/-! DEFINITION. The whole transition of each component in one place, as the informative sections of
the spec print it (41_ordered_set_detector.md section 6, 42_ordered_set_emitter.md section 5) and in
the same form for the burst engines. `step` does not use these functions; statements compare it with
them. -/

namespace Sys2Proof.Machine

/-- `adr'` and `count'` of `detector_step` (41 section 6). -/
def detectorNext (s : State) (p : Pattern) : Detector :=
  if s.inputs.rst then { adr := 0, count := 0 }
  else if !s.inputs.sinkValid then s.det p
  else
    { adr := if s.errorWire p then 0 else ((s.det p).adr + 1) % s.config.depth p
      count :=
        if s.errorWire p then 0
        else if (s.det p).count = s.config.mDet p - 1 then (s.det p).count
        else (s.det p).count + 1 }

/-- `cfg'` of `detector_step` (41 section 6), from the latches `l`. -/
def latchesNext (s : State) (p : Pattern) (l : LinkConfig) : LinkConfig :=
  if s.inputs.rst then { reset := false, loopback := false, scrambling := false }
  else if !s.inputs.sinkValid then l
  else if (s.det p).adr == 1 && !s.errorWire p then
    { reset := s.inputs.sinkData.getLsbD 8
      loopback := s.inputs.sinkData.getLsbD 10
      scrambling := !s.inputs.sinkData.getLsbD 11 }
  else l

/-- `S'` of `emitter_step` (42 section 5); none where `EMIT_STALL_POLICY = refuse` refuses the tick. -/
def emitterNext (s : State) : Option Emitter :=
  let next := (s.emt.adr + 1) % s.config.emitDepth
  if s.inputs.rst then some { adr := 0, count := s.config.mEmit - 1, run := false }
  else if s.sourceValid && !s.inputs.sourceReady then
    match s.config.stallPolicy with
    | .refuse => none
    | .hold => some s.emt
    | .restart =>
      if s.emtDone then some { adr := 0, count := 0, run := true }
      else some { adr := 0, count := s.emt.count + 1, run := s.emt.run }
  else if s.inputs.send && s.emtDone then some { adr := next, count := 0, run := true }
  else if !s.emtDone then some { adr := next, count := s.emt.count + 1, run := s.emt.run }
  else some { adr := 0, count := s.emt.count, run := false }

/-- The next registers of an oscillator (R153 to R160). -/
def oscillatorNext (s : State) (o : OscId) : Oscillator :=
  let x := s.osc o
  if s.oscRst o then { halfCnt := 0, level := false, busy := false, remaining := 0, doneQ := false }
  else
    { halfCnt := if x.halfCnt = s.config.half - 1 then 0 else x.halfCnt + 1
      level := if x.halfCnt = s.config.half - 1 then !x.level else x.level
      busy := if x.busy then !(x.remaining == 1) else s.oscStart o && !(s.oscLength o == 0)
      remaining :=
        if x.busy then (if x.remaining = 1 then 0 else x.remaining - 1)
        else if s.oscStart o && !(s.oscLength o == 0) then s.oscLength o
        else x.remaining
      doneQ := if x.busy then x.remaining == 1 else s.oscStart o && s.oscLength o == 0 }

/-- The next `rep_cnt` of the sequencer (R172 to R176). -/
def repCntNext (s : State) : Nat :=
  if s.inputs.rst then 0
  else if s.repCnt = 0 then (if s.inputs.polling then 1 else 0)
  else if s.repCnt = s.config.burstPeriod - 1 then 0
  else s.repCnt + 1

/-- The machine at the next tick, given the emitter's next registers: all next states installed
together at the boundary (R9). -/
def nextState (s : State) (e : Emitter) : State :=
  boundary
    { s.settled with
      detFraming := detectorNext s .framing
      detTrainA := detectorNext s .trainA
      detTrainB := detectorNext s .trainB
      cfgTrainA := latchesNext s .trainA s.cfgTrainA
      cfgTrainB := latchesNext s .trainB s.cfgTrainB
      emt := e
      repCnt := repCntNext s
      seqOsc := oscillatorNext s .sequencer
      bareOsc := oscillatorNext s .bare }

end Sys2Proof.Machine
end

