-- ==== Sys2Proof/Machine/Construct.lean ====
section
/-! DEFINITION. Building a machine (R7, R182, R215): derive the tick counts, fix the tables and the
repeat counts, check the constraints, then build the instances in their reset state; or refuse the
configuration, so that there is no tick 0. -/

namespace Sys2Proof.Machine

/-- Why a configuration is refused (R180, class (b)). -/
inductive ConfigError where
  /-- `UnknownPattern`: a pattern name outside FRAMING, TRAIN_A, TRAIN_B (R105). -/
  | unknownPattern
  /-- `IllFormedConfig`: a constraint of R6 fails. -/
  | illFormedConfig
  deriving DecidableEq, Repr

/-- The pattern a name stands for (R2, R7). -/
def patternOfName (name : String) : Option Pattern :=
  if name = "FRAMING" then some .framing
  else if name = "TRAIN_A" then some .trainA
  else if name = "TRAIN_B" then some .trainB
  else none

/-- A positive rational number, by which `TICK_RATE`, `BURST_FREQ` and durations are given (R77, R78). -/
structure Ratio where
  num : Nat
  den : Nat
  deriving DecidableEq, Repr

/-- The number is positive and its denominator is not 0. -/
def Ratio.positive (r : Ratio) : Bool := decide (0 < r.num) && decide (0 < r.den)

/-- The default `HALF` (R77): `max(1, floor(S/(2*f) + 1/2))`, exact, ties up. -/
def halfFrom (rate freq : Ratio) : Nat :=
  max 1 ((rate.num * freq.den + freq.num * rate.den) / (2 * (freq.num * rate.den)))

/-- `floor(T*S + 1/2)` (R78): the ticks in a duration of `time` seconds, rounded to the nearest. -/
def ticksFrom (rate time : Ratio) : Nat :=
  (2 * (time.num * rate.num) + time.den * rate.den) / (2 * (time.den * rate.den))

/-- How `HALF` is given: as a value, or by the target burst frequency in Hz (R77). -/
inductive HalfChoice where
  | given (n : Nat)
  | fromFrequency (freq : Ratio)
  deriving DecidableEq, Repr

/-- How `L` and `P` are given: as values, or by durations in seconds (R78's suggestion). -/
inductive BurstChoice where
  | given (length period : Nat)
  | fromSeconds (length period : Ratio)
  deriving DecidableEq, Repr

/-- What a platform asks for. `stallPolicy` none takes the default, `refuse` (R6). -/
structure ConfigRequest where
  tickRate : Ratio
  half : HalfChoice
  burst : BurstChoice
  framing : Table
  trainA : Table
  trainB : Table
  nDetFraming : Nat
  nDetTrainA : Nat
  nDetTrainB : Nat
  nEmit : Nat
  emitPattern : String
  stallPolicy : Option StallPolicy
  deriving DecidableEq, Repr

/-- `HALF` of a request. -/
def ConfigRequest.halfTicks (q : ConfigRequest) : Nat :=
  match q.half with
  | .given n => n
  | .fromFrequency f => halfFrom q.tickRate f

/-- `L` of a request; derived from a duration it is at least 1 (R78). -/
def ConfigRequest.lengthTicks (q : ConfigRequest) : Nat :=
  match q.burst with
  | .given l _ => l
  | .fromSeconds l _ => max 1 (ticksFrom q.tickRate l)

/-- `P` of a request. -/
def ConfigRequest.periodTicks (q : ConfigRequest) : Nat :=
  match q.burst with
  | .given _ p => p
  | .fromSeconds _ p => ticksFrom q.tickRate p

/-- The rational parameters of a request are positive (R77). -/
def ConfigRequest.ratiosOk (q : ConfigRequest) : Bool :=
  q.tickRate.positive
    && (match q.half with
        | .given _ => true
        | .fromFrequency f => f.positive)
    && (match q.burst with
        | .given _ _ => true
        | .fromSeconds l p => l.positive && p.positive)

/-- The configuration of a request, before it is checked. -/
def ConfigRequest.toConfig (q : ConfigRequest) (emit : Pattern) : Config where
  framing := q.framing
  trainA := q.trainA
  trainB := q.trainB
  nDetFraming := q.nDetFraming
  nDetTrainA := q.nDetTrainA
  nDetTrainB := q.nDetTrainB
  nEmit := q.nEmit
  emitPattern := emit
  half := q.halfTicks
  burstLength := q.lengthTicks
  burstPeriod := q.periodTicks
  stallPolicy := q.stallPolicy.getD .refuse

/-- Fix the configuration, or refuse it (R7, R215). Where a request has both an unknown pattern name and a
broken constraint, both rows of R180 apply and the spec gives no order: that the name is tested first and
`unknownPattern` is the answer is the model's choice (DESIGN CHOICE, notes/assumptions/22.md). -/
def construct (q : ConfigRequest) : Except ConfigError Config :=
  match patternOfName q.emitPattern with
  | none => .error .unknownPattern
  | some p =>
    if q.ratiosOk && (q.toConfig p).wellFormed then .ok (q.toConfig p) else .error .illFormedConfig

/-- Build the machine at tick 0, or refuse the configuration (R215). -/
def build (q : ConfigRequest) : Except ConfigError State :=
  match construct q with
  | .ok c => .ok (State.resetWith c)
  | .error e => .error e

end Sys2Proof.Machine
end

