-- ==== Sys2Proof/Machine/Ports.lean ====
section
/-! DEFINITION. All outputs of one tick (R113, R131 to R133, R151, R171, R192): functions of the state
at the start of the tick, but for `source_valid` and `source_data`, which also follow inputs of the
same tick (R227, D27). -/

namespace Sys2Proof.Machine

/-- The outputs of one detector (R23). The three flags are absent for FRAMING. -/
structure DetectorOutputs where
  sinkReady : Bool
  detected : Bool
  resetO : Option Bool
  loopbackO : Option Bool
  scramblingO : Option Bool
  deriving DecidableEq, Repr

/-- The outputs of the emitter (R28). -/
structure EmitterOutputs where
  sourceValid : Bool
  sourceData : Data
  sourceCtrl : Ctrl
  done : Bool
  deriving DecidableEq, Repr

/-- The outputs of an oscillator (R32), which the sequencer passes through (R36). -/
structure BurstOutputs where
  txIdle : Bool
  txPattern : Bool
  done : Bool
  deriving DecidableEq, Repr

/-- The outputs of the whole machine (R192). -/
structure Outputs where
  framing : DetectorOutputs
  trainA : DetectorOutputs
  trainB : DetectorOutputs
  emitter : EmitterOutputs
  sequencer : BurstOutputs
  bare : BurstOutputs
  deriving DecidableEq, Repr

/-- The outputs of the detector of pattern `p` in this tick (R113). -/
def State.detectorOutputs (s : State) (p : Pattern) : DetectorOutputs :=
  { sinkReady := Sys2Proof.Machine.sinkReady
    detected := s.detected p
    resetO := s.resetO p
    loopbackO := s.loopbackO p
    scramblingO := s.scramblingO p }

/-- The outputs of the emitter in this tick (R131 to R133), driven also when `source_valid = 0`. -/
def State.emitterOutputs (s : State) : EmitterOutputs :=
  { sourceValid := s.sourceValid
    sourceData := s.sourceData
    sourceCtrl := s.sourceCtrl
    done := s.emtDone }

/-- The outputs of an oscillator in this tick (R151, R171). -/
def State.burstOutputs (s : State) (o : OscId) : BurstOutputs :=
  { txIdle := s.txIdle o, txPattern := s.txPattern o, done := s.oscDone o }

/-- The outputs of the tick. -/
def State.outputs (s : State) : Outputs :=
  { framing := s.detectorOutputs .framing
    trainA := s.detectorOutputs .trainA
    trainB := s.detectorOutputs .trainB
    emitter := s.emitterOutputs
    sequencer := s.burstOutputs .sequencer
    bare := s.burstOutputs .bare }

end Sys2Proof.Machine
end

