-- ==== Sys2Proof/Machine/Trace.lean ====
section
/-! DEFINITION. The trace notation: the pseudo-operations (R92), as lists of input lines, one entry a
tick, for `State.pending`; and what a trace line holds (R91), as data. -/

namespace Sys2Proof.Machine

/-- `rst`: one tick with `rst = 1` on every component. -/
def traceRst : List Inputs := [{ Inputs.quiet with rst := true, oscRst := true }]

/-- `idle k`: `k` ticks with every request input 0 and no symbol. -/
def traceIdle (k : Nat) : List Inputs := List.replicate k Inputs.quiet

/-- `hold send k`: `k` ticks with `send = 1`. -/
def traceHoldSend (k : Nat) : List Inputs := List.replicate k { Inputs.quiet with send := true }

/-- `pulse send`: one tick with `send = 1`; the quiet lines that follow are the caller's. -/
def tracePulseSend : List Inputs := traceHoldSend 1

/-- `burst n`: one tick with `start = 1 length = n` on the oscillator that stands alone. -/
def traceBurst (n : BurstTicks) : List Inputs :=
  [{ Inputs.quiet with oscStart := true, oscLength := n }]

/-- `poll k`: `k` ticks with `polling = 1`. -/
def tracePoll (k : Nat) : List Inputs := List.replicate k { Inputs.quiet with polling := true }

/-- One tick that presents a symbol. -/
def traceSym (data : Data) (ctrl : Ctrl) : Inputs :=
  { Inputs.quiet with sinkValid := true, sinkData := data, sinkCtrl := ctrl }

/-- The `data` of index `i` in one repetition of pattern `p`, its word 1 with the given config byte
where `HAS_CFG`. -/
def repWord (c : Config) (p : Pattern) (configByte : Byte) (i : Nat) : Data :=
  if p.hasCfg && i == 1 then substituteByte1 (patRead c p i) configByte else patRead c p i

/-- `rep p`: one repetition of pattern `p`, with its config byte. -/
def traceRep (c : Config) (p : Pattern) (configByte : Byte) : List Inputs :=
  (List.range (c.depth p)).map fun i => traceSym (repWord c p configByte i) (expCtrl c p i)

/-- `loop E -> D` in this tick: the emitter's `source_*` outputs are the detectors' `sink_*` inputs,
and `source_ready = sink_ready = 1`. A wiring for a test; a SignalingUnit has none (R193). -/
def State.looped (s : State) : State :=
  { s with
    inputs := { s.inputs with
      sinkValid := s.sourceValid
      sinkData := s.sourceData
      sinkCtrl := s.sourceCtrl
      sourceReady := sinkReady } }

/-- The mnemonic of an operation (R81 to R87, R91). -/
def mnemonic : Instr → String
  | .detReset _ => "DET.RESET"
  | .detHold _ => "DET.HOLD"
  | .detMismatch _ => "DET.MISMATCH"
  | .detMatch _ => "DET.MATCH"
  | .detMatchSat _ => "DET.MATCH_SAT"
  | .detlReset _ => "DETL.RESET"
  | .detlLatch _ => "DETL.LATCH"
  | .detlKeep _ => "DETL.KEEP"
  | .emtReset => "EMT.RESET"
  | .emtIdle => "EMT.IDLE"
  | .emtStart => "EMT.START"
  | .emtRun => "EMT.RUN"
  | .emtStallStart => "EMT.STALL_START"
  | .emtStallRun => "EMT.STALL_RUN"
  | .oscReset _ => "OSC.RESET"
  | .oscIdle _ => "OSC.IDLE"
  | .oscStart _ => "OSC.START"
  | .oscStartZero _ => "OSC.START0"
  | .oscRun _ => "OSC.RUN"
  | .oscLast _ => "OSC.LAST"
  | .waveReset _ => "WAVE.RESET"
  | .waveCount _ => "WAVE.COUNT"
  | .waveToggle _ => "WAVE.TOGGLE"
  | .seqReset => "SEQ.RESET"
  | .seqWait => "SEQ.WAIT"
  | .seqFire => "SEQ.FIRE"
  | .seqCount => "SEQ.COUNT"
  | .seqWrap => "SEQ.WRAP"
  | .patRead _ => "PAT.READ"
  | .patCtrl _ => "PAT.CTRL"
  | .patMask _ => "PAT.MASK"

/-- The operations of one instance as a trace line writes them, joined with `+` (R91). -/
def operationsText (is : List Instr) : String := String.intercalate "+" (is.map mnemonic)

/-- An instance a trace line is about (R91, R192). -/
inductive TraceInstance where
  | det (p : Pattern)
  | emt
  | seq
  | bareOsc
  deriving DecidableEq, Repr

/-- The operation groups of an instance, in the order a trace line names them. -/
def TraceInstance.groups : TraceInstance → List Slot
  | .det p => if p.hasCfg then [.det p, .detl p] else [.det p]
  | .emt => [.emt]
  | .seq => [.seq, .osc .sequencer, .wave .sequencer]
  | .bareOsc => [.osc .bare, .wave .bare]

/-- One tick of one instance (R91): the lines of the tick, the operations, the outputs of the tick, and
the state at the next tick where there is one. -/
structure TraceLine where
  tick : Nat
  component : TraceInstance
  inputs : Inputs
  operations : List Instr
  outputs : Outputs
  next : Option State
  deriving DecidableEq, Repr

/-- The operations an instance performs in this tick. -/
def State.operations (s : State) (x : TraceInstance) : List Instr :=
  match decodeAll s.settled x.groups with
  | .ok is => is
  | .error _ => []

/-- The trace line of an instance in this tick. -/
def State.traceLine (s : State) (x : TraceInstance) : TraceLine :=
  { tick := s.tick
    component := x
    inputs := s.inputs
    operations := s.operations x
    outputs := s.outputs
    next :=
      match step s with
      | .next t => some t
      | .fault _ => none
      | .refused _ => none }

end Sys2Proof.Machine
end

