-- ==== Sys2Proof/Safety.lean ====
section
/-! DEFINITION. The terms statements are made in: runs, the invariant of reachable states, what a
component's registers are, and what an operation leaves unchanged. -/

namespace Sys2Proof.Machine

/-- `σ` is a run of `n` ticks: `σ k` is the state at the start of its tick `k` (R198). What the
environment presents in tick `k` is `(σ k).inputs`, any lines at all. -/
def Run (n : Nat) (σ : Nat → State) : Prop := ∀ k, k < n → step (σ k) = .next (σ (k + 1))

/-- Why the emitter may be offered no step: a symbol offered and not accepted, outside reset (R140). -/
def State.stalled (s : State) : Bool := !s.inputs.rst && s.sourceValid && !s.inputs.sourceReady

/-- The invariant of reachable states: the configuration is one a machine is built for (R7), no
register is outside its range (R88), and the relations of R124, R143, R164 and R178 hold. -/
structure Inv (s : State) : Prop where
  config_ok : s.config.wellFormed = true
  in_range : s.inRange = true
  /-- R124: while `count < M-1`, `adr == count mod DEPTH`. -/
  det_aligned : ∀ p, (s.det p).count < s.config.mDet p - 1 →
    (s.det p).adr = (s.det p).count % s.config.depth p
  /-- R143, for the two policies under which it is kept. -/
  emt_aligned : s.config.stallPolicy ≠ .restart →
    s.emt.adr = (s.emt.count + 1) % s.config.emitDepth ∧ (s.emtDone = false → s.emt.run = true)
  /-- R164: `busy = 0` implies `remaining = 0`. -/
  idle_empty : ∀ o, (s.osc o).busy = false → (s.osc o).remaining = 0
  /-- R164: `done_q = 1` implies `busy = 0`. -/
  done_idle : ∀ o, (s.osc o).doneQ = true → (s.osc o).busy = false
  /-- R178: a burst of the sequencer lies inside its period. -/
  burst_in_period : s.seqOsc.busy = true →
    s.repCnt ≠ 0 ∧ s.repCnt + s.seqOsc.remaining.toNat = s.config.burstLength + 1

/-- `c` is the configuration that `q` asks for (R215): its tables, repeat counts and pattern, `HALF`, `L`
and `P` as given or derived (R77, R78), and the stall policy, `refuse` where none is asked for (R6).
Whether it is well-formed is not said here. -/
structure Requested (q : ConfigRequest) (c : Config) : Prop where
  tables : c.framing = q.framing ∧ c.trainA = q.trainA ∧ c.trainB = q.trainB
  counts : c.nDetFraming = q.nDetFraming ∧ c.nDetTrainA = q.nDetTrainA ∧
    c.nDetTrainB = q.nDetTrainB ∧ c.nEmit = q.nEmit
  pattern : (q.emitPattern = "FRAMING" ∧ c.emitPattern = .framing) ∨
    (q.emitPattern = "TRAIN_A" ∧ c.emitPattern = .trainA) ∨
    (q.emitPattern = "TRAIN_B" ∧ c.emitPattern = .trainB)
  half_given : ∀ n, q.half = .given n → c.half = n
  half_derived : ∀ f, q.half = .fromFrequency f → c.half = halfFrom q.tickRate f
  burst_given : ∀ l p, q.burst = .given l p → c.burstLength = l ∧ c.burstPeriod = p
  burst_derived : ∀ l p, q.burst = .fromSeconds l p →
    c.burstLength = max 1 (ticksFrom q.tickRate l) ∧ c.burstPeriod = ticksFrom q.tickRate p
  policy : c.stallPolicy = q.stallPolicy.getD .refuse

/-- The two states hold the same pattern tables: `PatRead`, `exp_ctrl` and `HAS_CFG` give the same at
every index. -/
def SameTables (s t : State) : Prop :=
  ∀ p adr, patRead t.config p adr = patRead s.config p adr ∧
    expCtrl t.config p adr = expCtrl s.config p adr ∧ t.config.depth p = s.config.depth p

/-- What no operation of a tick writes: the configuration with its tables, the lines of the
environment, and the tick number. -/
def SameSurroundings (s t : State) : Prop :=
  t.config = s.config ∧ SameTables s t ∧ t.inputs = s.inputs ∧ t.pending = s.pending ∧
    t.tick = s.tick

/-- The pattern-table wires of every reader are unchanged. -/
def SameWires (s t : State) : Prop := ∀ r, t.wires r = s.wires r

/-- The registers of every detector but that of `p`, and the latches of every detector, are
unchanged. -/
def SameDetectorsBut (p : Pattern) (s t : State) : Prop :=
  (∀ q, q ≠ p → t.det q = s.det q) ∧ ∀ q, t.latches q = s.latches q

/-- The registers of every detector are unchanged. -/
def SameDetectors (s t : State) : Prop := ∀ q, t.det q = s.det q

/-- The latches of every detector are unchanged. -/
def SameLatches (s t : State) : Prop := ∀ q, t.latches q = s.latches q

/-- The registers of both oscillators are unchanged. -/
def SameOscillators (s t : State) : Prop := ∀ o, t.osc o = s.osc o

/-- The frame of a DET operation of pattern `p`: it may change `adr` and `count` of that detector. -/
def DetFrame (p : Pattern) (s t : State) : Prop :=
  SameSurroundings s t ∧ SameWires s t ∧ SameDetectorsBut p s t ∧ t.emt = s.emt ∧
    t.repCnt = s.repCnt ∧ SameOscillators s t

/-- The frame of a DETL operation of pattern `p`: it may change the latches of that detector. -/
def DetlFrame (p : Pattern) (s t : State) : Prop :=
  SameSurroundings s t ∧ SameWires s t ∧ SameDetectors s t ∧
    (∀ q, q ≠ p → t.latches q = s.latches q) ∧ t.emt = s.emt ∧ t.repCnt = s.repCnt ∧
    SameOscillators s t

/-- The frame of an EMT operation: it may change the emitter's registers. -/
def EmtFrame (s t : State) : Prop :=
  SameSurroundings s t ∧ SameWires s t ∧ SameDetectors s t ∧ SameLatches s t ∧
    t.repCnt = s.repCnt ∧ SameOscillators s t

/-- The frame of an OSC operation of oscillator `o`: it may change `busy`, `remaining`, `done_q`. -/
def OscFrame (o : OscId) (s t : State) : Prop :=
  SameSurroundings s t ∧ SameWires s t ∧ SameDetectors s t ∧ SameLatches s t ∧ t.emt = s.emt ∧
    t.repCnt = s.repCnt ∧ (∀ q, q ≠ o → t.osc q = s.osc q) ∧
    (t.osc o).halfCnt = (s.osc o).halfCnt ∧ (t.osc o).level = (s.osc o).level

/-- The frame of a WAVE operation of oscillator `o`: it may change `half_cnt` and `level`. -/
def WaveFrame (o : OscId) (s t : State) : Prop :=
  SameSurroundings s t ∧ SameWires s t ∧ SameDetectors s t ∧ SameLatches s t ∧ t.emt = s.emt ∧
    t.repCnt = s.repCnt ∧ (∀ q, q ≠ o → t.osc q = s.osc q) ∧
    (t.osc o).busy = (s.osc o).busy ∧ (t.osc o).remaining = (s.osc o).remaining ∧
    (t.osc o).doneQ = (s.osc o).doneQ

/-- The frame of a SEQ operation: it may change `rep_cnt`. -/
def SeqFrame (s t : State) : Prop :=
  SameSurroundings s t ∧ SameWires s t ∧ SameDetectors s t ∧ SameLatches s t ∧ t.emt = s.emt ∧
    SameOscillators s t

/-- The frame of a PAT operation of reader `r`: no register changes, and no other reader's wires. -/
def PatFrame (r : Reader) (s t : State) : Prop :=
  SameSurroundings s t ∧ SameDetectors s t ∧ SameLatches s t ∧ t.emt = s.emt ∧
    t.repCnt = s.repCnt ∧ SameOscillators s t ∧ ∀ q, q ≠ r → t.wires q = s.wires q

end Sys2Proof.Machine
end

