-- ==== Sys2Proof/Certificates/Slice0/Obligations.lean ====
section
/-! DEFINITION. The statements for the provers. Each docstring names the rule of the spec it rests on.
In a statement about one operation, `s.selected g = .ok i` says that group `g` performs operation `i`
in the tick that starts in `s`; the frames (`DetFrame` and so on, Safety.lean) say what the operation
leaves unchanged, the pattern tables among it. -/

open Sys2Proof Sys2Proof.Machine

/-! ## Encoding -/

/-- A few select vectors, written out from R81 to R87 (the spec's own construct, D17), decode to the
operation they stand for, and bytes that are no vector of a group are rejected by name. That a vector
is fetched as one byte and that other bytes are rejected so (`vectorTooWide`, `noVector`, `extraBytes`)
are the model's choices, log entry 12; so is the name `groupAbsent`, log entry 17. -/
def Obligations.SpecSelectVectorsDecode : Prop :=
  decode (.det .trainA) [0b0100] = .ok (.detMatch .trainA) ∧
  decode (.det .framing) [0b1011] = .ok (.detReset .framing) ∧
  decode (.detl .trainB) [0b01] = .ok (.detlLatch .trainB) ∧
  decode .emt [0b0111] = .ok .emtStart ∧
  decode .emt [0b0011] = .ok .emtRun ∧
  decode (.osc .bare) [0b00011] = .ok (.oscStartZero .bare) ∧
  decode (.osc .sequencer) [0b01111] = .ok (.oscLast .sequencer) ∧
  decode (.wave .bare) [0b01] = .ok (.waveToggle .bare) ∧
  decode .seq [0b0110] = .ok .seqFire ∧
  decode (.patRead .emitter) [] = .ok (.patRead .emitter) ∧
  decode (.detl .framing) [0b01] = .error .groupAbsent ∧
  decode .emt [0b10000] = .error .vectorTooWide ∧
  decode .seq [] = .error .noVector ∧
  decode .seq [0, 0] = .error .extraBytes

/-- R80 (the spec's own construct, D17): in each group with a vector, every vector of its width is
decoded, by one row only. -/
def Obligations.SelectTablesTotalAndExclusive : Prop :=
  ∀ (g : Slot) (v : Byte), g ≠ .detl .framing → g.width ≠ 0 → v.toNat < 2 ^ g.width →
    ∃ i, decode g [v] = .ok i ∧
      ∀ j : Instr, (j.slot = g ∧ encode j = [v &&& j.decodedBits]) ↔ j = i

/-- Decode and encode agree: every well-formed operation comes back from its encoding, and bytes that
decode to an operation are its encoding on every bit the operation's row decodes. -/
def Obligations.DecodeAndEncodeAgree : Prop :=
  (∀ i : Instr, i.wellFormed = true → decode i.slot (encode i) = .ok i) ∧
  ∀ (g : Slot) (bytes : List Byte) (i : Instr), decode g bytes = .ok i →
    i.slot = g ∧ i.wellFormed = true ∧ bytes.map (fun v => v &&& i.decodedBits) = encode i

/-! ## The step -/

/-- R9, R80: a step first settles the wires by the PAT operations, then performs for each group, in
their order, exactly the operation its vector decodes to, all selected in the state at the start of
the tick, and then passes the boundary to the next tick. A stop of any operation is the step's. That
the wires are state which is settled first (log entry 10), and that the operations are performed one
after another where R9 has them take effect together (log entry 13), is the model's choice. -/
def Obligations.StepRunsSelectedOperations : Prop :=
  ∀ s : State, s.config.wellFormed = true → s.inRange = true →
    perform patSlots s = .next s.settled ∧
    ∃ is : List Instr, is.map Except.ok = groupSlots.map s.selected ∧
      (∀ i ∈ is, i.wellFormed = true) ∧
      step s = andThen (execAll is s.settled) (fun t => .next (boundary t))

/-- R7 and R88 with U13 (the spec's decisions): an ill-formed configuration is refused, and a machine
with a register no rule gives a meaning is stuck (log entry 7). -/
def Obligations.IllFormedConfigurationRefused : Prop :=
  ∀ s : State,
    (s.config.wellFormed = false → step s = .refused .illFormedConfig) ∧
    (s.config.wellFormed = true → s.inRange = false → step s = .fault .unreachableState)

/-- R183 (decision D10): from a state of the invariant the only stop is the refusal of a symbol offered
and not accepted, under the policy `refuse`; otherwise the step answers a next state. That the one
stalled emitter refuses the tick of the whole machine, where R183 speaks of one instance, is the model's
choice (log entry 11). -/
def Obligations.OnlyStalledEmitterStops : Prop :=
  ∀ s : State, Inv s →
    ((s.stalled = true ∧ s.config.stallPolicy = .refuse) → step s = .refused .emitterStalled) ∧
    (¬ (s.stalled = true ∧ s.config.stallPolicy = .refuse) → ∃ t, step s = .next t)

/-- Every step keeps the invariant: the registers in their ranges (R88, R90) and the relations of R124,
R143, R164 and R178, inferences the spec marks as its own. -/
def Obligations.StepKeepsInvariant : Prop :=
  ∀ s t : State, Inv s → step s = .next t → Inv t

/-- R43, R210 (reset values: decisions D1, D6): the machine of any well-formed configuration starts in
the invariant, and so does `State.reset` (whose configuration is the model's choice, log entry 2). -/
def Obligations.ResetStateHasInvariant : Prop :=
  (∀ c : Config, c.wellFormed = true → Inv (State.resetWith c)) ∧ Inv State.reset

/-- R52, R214: no operation and no step changes the configuration, so none changes a pattern table. -/
def Obligations.TablesAreNeverWritten : Prop :=
  (∀ (i : Instr) (s t : State), exec i s = .next t → t.config = s.config ∧ SameTables s t) ∧
  ∀ s t : State, step s = .next t → t.config = s.config ∧ SameTables s t

/-- R210, R212 (decision D1): a tick with `rst = 1` leaves every register of the SignalingUnit at its
reset value, whatever the other inputs and the registers are. And so does a tick with its own `rst = 1`
for the oscillator that stands alone (log entry 8), with or without the unit's `rst`, unless a stalled
emitter of the unit has the whole tick refused (log entry 11). -/
def Obligations.ResetTickLeavesResetValues : Prop :=
  ∀ s : State, s.config.wellFormed = true → s.inRange = true →
    (s.inputs.rst = true →
      ∃ t, step s = .next t ∧ t.config = s.config ∧
        (∀ p, (t.det p).adr = 0 ∧ (t.det p).count = 0) ∧
        (∀ p, p.hasCfg = true → t.resetO p = some false ∧ t.loopbackO p = some false ∧
          t.scramblingO p = some false) ∧
        t.emt.adr = 0 ∧ t.emt.count = s.config.mEmit - 1 ∧ t.emt.run = false ∧
        t.repCnt = 0 ∧ t.seqOsc.halfCnt = 0 ∧ t.seqOsc.level = false ∧
        t.seqOsc.busy = false ∧ t.seqOsc.remaining = 0 ∧ t.seqOsc.doneQ = false) ∧
    (s.inputs.oscRst = true → ¬ (s.stalled = true ∧ s.config.stallPolicy = .refuse) →
      ∃ t, step s = .next t ∧ t.config = s.config ∧ t.bareOsc.halfCnt = 0 ∧
        t.bareOsc.level = false ∧ t.bareOsc.busy = false ∧ t.bareOsc.remaining = 0 ∧
        t.bareOsc.doneQ = false)

/-- R211 (reset values: decisions D1, D6, D19): the outputs at tick 0, for any configuration that can
be built and any inputs. -/
def Obligations.OutputsAtTickZero : Prop :=
  ∀ (c : Config) (inp : Inputs) (w : Data), c.wellFormed = true →
    (c.table c.emitPattern).words[0]? = some w →
    let s : State := { State.resetWith c with inputs := inp }
    (∀ p, s.detected p = false ∧ (s.detectorOutputs p).sinkReady = true) ∧
    (∀ p, p.hasCfg = true → s.resetO p = some false ∧ s.loopbackO p = some false ∧
      s.scramblingO p = some false) ∧
    s.emtDone = true ∧ s.sourceValid = inp.send ∧ s.sourceData = w ∧
    s.sourceCtrl = (c.table c.emitPattern).firstCtrl ∧
    ∀ o, s.txIdle o = true ∧ s.txPattern o = false ∧ s.oscDone o = false

/-- R61: the next registers of each component are a function of its own registers and its own inputs:
two machines of one configuration that agree on those agree on them after the tick, whatever the
rest of them holds. -/
def Obligations.ComponentsDoNotInterfere : Prop :=
  ∀ s s' t t' : State, step s = .next t → step s' = .next t' → s.config = s'.config →
    (∀ p, s.det p = s'.det p → s.latches p = s'.latches p → s.inputs.rst = s'.inputs.rst →
      s.inputs.sinkValid = s'.inputs.sinkValid → s.inputs.sinkData = s'.inputs.sinkData →
      s.inputs.sinkCtrl = s'.inputs.sinkCtrl → t.det p = t'.det p ∧ t.latches p = t'.latches p) ∧
    (s.emt = s'.emt → s.inputs.rst = s'.inputs.rst → s.inputs.send = s'.inputs.send →
      s.inputs.sourceReady = s'.inputs.sourceReady → t.emt = t'.emt) ∧
    (s.repCnt = s'.repCnt → s.seqOsc = s'.seqOsc → s.inputs.rst = s'.inputs.rst →
      s.inputs.polling = s'.inputs.polling → t.repCnt = t'.repCnt ∧ t.seqOsc = t'.seqOsc) ∧
    (s.bareOsc = s'.bareOsc → s.inputs.oscRst = s'.inputs.oscRst →
      s.inputs.oscStart = s'.inputs.oscStart → s.inputs.oscLength = s'.inputs.oscLength →
      t.bareOsc = t'.bareOsc)

/-- The step, made of decoded operations, gives each component the next registers of its whole
transition: for the detector and the emitter as the spec prints it (41 section 6, 42 section 5), for
the burst engines the rules of their operations brought into the same form. The clauses on the
surroundings of the next tick are the model's choices: the wires (log entry 10), the tick number (log
entry 20), the pending and the new lines (log entry 3). -/
def Obligations.StepIsTheWholeTransition : Prop :=
  ∀ s t : State, step s = .next t →
    (∀ p, t.det p = detectorNext s p) ∧
    (∀ p, t.latches p = (s.latches p).map (latchesNext s p)) ∧
    emitterNext s = some t.emt ∧ t.repCnt = repCntNext s ∧
    (∀ o, t.osc o = oscillatorNext s o) ∧ (∀ r, t.wires r = s.patWires r) ∧
    t.tick = s.tick + 1 ∧ t.pending = s.pending.tail ∧
    ∀ inp rest, s.pending = inp :: rest → t.inputs = inp

/-! ## The pattern table -/

/-- R101, R51: PAT.READ drives the reader's word wire with the word at its cursor, and changes nothing
else; an index outside the table, which cannot be formed, stops it (that the wires are state and that
such an index stops are the model's choices, log entries 10 and 7). -/
def Obligations.PatReadGivesTheWord : Prop :=
  ∀ (r : Reader) (s : State),
    (∀ w, (s.config.table (s.readerPattern r)).words[s.readerAdr r]? = some w →
      ∃ t, exec (.patRead r) s = .next t ∧ (t.wires r).word = w ∧
        (t.wires r).ctrl = (s.wires r).ctrl ∧ (t.wires r).mask = (s.wires r).mask ∧
        PatFrame r s t) ∧
    (s.config.depth (s.readerPattern r) ≤ s.readerAdr r →
      exec (.patRead r) s = .fault .addressOutsideTable)

/-- R102: PAT.CTRL drives the reader's `ctrl` wire with `FIRST_CTRL` on word 0, which is nonzero, and 0
on every other word (that the wires are state is the model's choice, log entry 10). -/
def Obligations.PatCtrlGivesTheMarker : Prop :=
  ∀ (r : Reader) (s : State),
    (∃ t, exec (.patCtrl r) s = .next t ∧
      (s.readerAdr r = 0 →
        (t.wires r).ctrl = (s.config.table (s.readerPattern r)).firstCtrl) ∧
      (s.readerAdr r ≠ 0 → (t.wires r).ctrl = 0) ∧
      (t.wires r).word = (s.wires r).word ∧ (t.wires r).mask = (s.wires r).mask ∧
      PatFrame r s t) ∧
    (s.config.wellFormed = true → (s.config.table (s.readerPattern r)).firstCtrl ≠ 0)

/-- R103: PAT.MASK drives the reader's mask wire with `0xFFFF00FF` on word 1 of a pattern with
`HAS_CFG`, and all ones elsewhere; for FRAMING at every index (that the wires are state is the model's
choice, log entry 10). -/
def Obligations.PatMaskGivesTheHole : Prop :=
  ∀ (r : Reader) (s : State), ∃ t, exec (.patMask r) s = .next t ∧
    ((s.readerPattern r ≠ .framing ∧ s.readerAdr r = 1) → (t.wires r).mask = 0xFFFF00FF) ∧
    ((s.readerPattern r = .framing ∨ s.readerAdr r ≠ 1) → (t.wires r).mask = 0xFFFFFFFF) ∧
    (t.wires r).word = (s.wires r).word ∧ (t.wires r).ctrl = (s.wires r).ctrl ∧ PatFrame r s t

/-! ## The detector -/

/-- R111 (decision D7 while `valid = 0`): the wire `error`, bit by bit: a valid symbol is an error when
its marker is not the expected one, or when a bit outside the hole over bits 15:8 of the config word
differs from the table's. -/
def Obligations.ErrorWireComparesBits : Prop :=
  ∀ (p : Pattern) (s : State) (w : Data),
    (s.config.table p).words[(s.det p).adr]? = some w →
    (s.errorWire p = true ↔ s.inputs.sinkValid = true ∧
      (((s.det p).adr = 0 ∧ s.inputs.sinkCtrl ≠ (s.config.table p).firstCtrl) ∨
       ((s.det p).adr ≠ 0 ∧ s.inputs.sinkCtrl ≠ 0) ∨
       ∃ b, b < 32 ∧ ¬ (p.hasCfg = true ∧ (s.det p).adr = 1 ∧ 8 ≤ b ∧ b < 16) ∧
         s.inputs.sinkData.getLsbD b ≠ w.getLsbD b))

/-- R112 (its reading of `valid = 0` is decision D5): DET.HOLD is selected without a valid symbol and
changes nothing. -/
def Obligations.DetHoldKeepsEverything : Prop :=
  ∀ (p : Pattern) (s : State),
    (s.selected (.det p) = .ok (.detHold p) ↔
      s.inputs.rst = false ∧ s.inputs.sinkValid = false) ∧
    exec (.detHold p) s = .next s

/-- R114: DET.MATCH: the cursor advances modulo `DEPTH`, `count` goes up by one, and `detected` becomes
1 exactly when `count` was `M-2`. -/
def Obligations.DetMatchAdvances : Prop :=
  ∀ (p : Pattern) (s : State),
    (s.selected (.det p) = .ok (.detMatch p) ↔
      s.inputs.rst = false ∧ s.inputs.sinkValid = true ∧ s.errorWire p = false ∧
      (s.det p).count ≠ s.config.mDet p - 1) ∧
    ∃ t, exec (.detMatch p) s = .next t ∧
      (t.det p).adr = ((s.det p).adr + 1) % s.config.depth p ∧
      (t.det p).count = (s.det p).count + 1 ∧
      (t.detected p = true ↔ (s.det p).count + 2 = s.config.mDet p) ∧
      DetFrame p s t

/-- R115: DET.MATCH_SAT: the cursor advances modulo `DEPTH`, `count` and `detected` keep their values.
-/
def Obligations.DetMatchSatKeepsCount : Prop :=
  ∀ (p : Pattern) (s : State),
    (s.selected (.det p) = .ok (.detMatchSat p) ↔
      s.inputs.rst = false ∧ s.inputs.sinkValid = true ∧ s.errorWire p = false ∧
      (s.det p).count = s.config.mDet p - 1) ∧
    ∃ t, exec (.detMatchSat p) s = .next t ∧
      (t.det p).adr = ((s.det p).adr + 1) % s.config.depth p ∧
      (t.det p).count = (s.det p).count ∧ t.detected p = s.detected p ∧
      DetFrame p s t

/-- R116, R186, R187 (parts the spec marks as derived): DET.MISMATCH, whatever `count` is: the recovery
sets `adr` and `count` to 0, leaves the latches and every other component alone, and doing it again
changes nothing more. -/
def Obligations.DetMismatchRestarts : Prop :=
  ∀ (p : Pattern) (s : State),
    (s.selected (.det p) = .ok (.detMismatch p) ↔
      s.inputs.rst = false ∧ s.inputs.sinkValid = true ∧ s.errorWire p = true) ∧
    ∃ t, exec (.detMismatch p) s = .next t ∧ (t.det p).adr = 0 ∧ (t.det p).count = 0 ∧
      (2 ≤ s.config.mDet p → t.detected p = false) ∧ DetFrame p s t ∧
      exec (.detMismatch p) t = .next t

/-- R117 (decision D1): DET.RESET, selected by `rst` whatever the other inputs are, clears `adr` and
`count`, and `detected` with them. -/
def Obligations.DetResetClears : Prop :=
  ∀ (p : Pattern) (s : State),
    (s.selected (.det p) = .ok (.detReset p) ↔ s.inputs.rst = true) ∧
    ∃ t, exec (.detReset p) s = .next t ∧ (t.det p).adr = 0 ∧ (t.det p).count = 0 ∧
      (2 ≤ s.config.mDet p → t.detected p = false) ∧ DetFrame p s t

/-- R118: DETL.LATCH takes bit 8, bit 10 and bit 11 inverted of the received word, whatever `count` is,
and always together with DET.MATCH or DET.MATCH_SAT. -/
def Obligations.DetlLatchTakesReceivedFlags : Prop :=
  ∀ (p : Pattern) (s : State), p.hasCfg = true →
    (s.selected (.detl p) = .ok (.detlLatch p) ↔
      s.inputs.rst = false ∧ s.inputs.sinkValid = true ∧ (s.det p).adr = 1 ∧
      s.errorWire p = false) ∧
    (s.selected (.detl p) = .ok (.detlLatch p) →
      s.selected (.det p) = .ok (.detMatch p) ∨ s.selected (.det p) = .ok (.detMatchSat p)) ∧
    ∃ t, exec (.detlLatch p) s = .next t ∧
      t.resetO p = some (s.inputs.sinkData.getLsbD 8) ∧
      t.loopbackO p = some (s.inputs.sinkData.getLsbD 10) ∧
      t.scramblingO p = some (!s.inputs.sinkData.getLsbD 11) ∧
      DetlFrame p s t

/-- R119: DETL.KEEP changes nothing; it is selected without a symbol, at every index but 1, and on every
mismatch. -/
def Obligations.DetlKeepKeepsEverything : Prop :=
  ∀ (p : Pattern) (s : State), p.hasCfg = true →
    (s.selected (.detl p) = .ok (.detlKeep p) ↔
      s.inputs.rst = false ∧
      (s.inputs.sinkValid = false ∨ (s.det p).adr ≠ 1 ∨ s.errorWire p = true)) ∧
    exec (.detlKeep p) s = .next s

/-- R120 (decisions D1, D6): DETL.RESET, selected by `rst`, clears the three latches. -/
def Obligations.DetlResetClearsLatches : Prop :=
  ∀ (p : Pattern) (s : State), p.hasCfg = true →
    (s.selected (.detl p) = .ok (.detlReset p) ↔ s.inputs.rst = true) ∧
    ∃ t, exec (.detlReset p) s = .next t ∧ t.resetO p = some false ∧
      t.loopbackO p = some false ∧ t.scramblingO p = some false ∧ DetlFrame p s t

/-- R82, R22: the FRAMING detector has no group DETL, no latches and no flag outputs: its three
operations are rejected by the decoder and refused by name (that they are refused is the model's
choice, log entry 17). -/
def Obligations.DetlIsAbsentForFraming : Prop :=
  ∀ (s : State) (bytes : List Byte),
    decode (.detl .framing) bytes = .error .groupAbsent ∧
    exec (.detlReset .framing) s = .refused .groupAbsent ∧
    exec (.detlLatch .framing) s = .refused .groupAbsent ∧
    exec (.detlKeep .framing) s = .refused .groupAbsent ∧
    s.resetO .framing = none ∧ s.loopbackO .framing = none ∧ s.scramblingO .framing = none

/-- R124, R121 (inferences the spec marks as its own): from its reset registers, while no symbol is an
error and `rst` is low, a detector's cursor is the number of valid symbols modulo `DEPTH` and its
counter that number up to `M-1`, whatever gaps lie between the symbols; so `detected` reads 1 from the
tick after the `(M-1)`-th symbol on. -/
def Obligations.DetectorCountsErrorFreeSymbols : Prop :=
  ∀ (n : Nat) (σ : Nat → State) (p : Pattern), Run n σ → Inv (σ 0) →
    (σ 0).det p = { adr := 0, count := 0 } →
    (∀ k, k < n → (σ k).inputs.rst = false ∧ (σ k).errorWire p = false) →
    let v := (List.range n).countP (fun k => (σ k).inputs.sinkValid)
    ((σ n).det p).adr = v % (σ 0).config.depth p ∧
    ((σ n).det p).count = min v ((σ 0).config.mDet p - 1) ∧
    ((σ n).detected p = true ↔ (σ 0).config.mDet p - 1 ≤ v)

/-- R122: `detected` clears by a mismatching valid symbol or by `rst`, and by nothing else. -/
def Obligations.DetectedClearsOnlyByMismatchOrReset : Prop :=
  ∀ (s t : State) (p : Pattern), Inv s → step s = .next t → s.detected p = true →
    (t.detected p = false ↔ s.inputs.rst = true ∨ s.errorWire p = true)

/-- R123 (an inference the spec marks as its own): one wrong unmasked bit of a valid symbol restarts
the repetition, whatever its marker and whatever the count; the latched flags keep their values. -/
def Obligations.OneWrongBitRestarts : Prop :=
  ∀ (s : State) (p : Pattern) (w : Data) (b : Nat), Inv s →
    ¬ (s.stalled = true ∧ s.config.stallPolicy = .refuse) →
    s.inputs.rst = false → s.inputs.sinkValid = true →
    (s.config.table p).words[(s.det p).adr]? = some w → b < 32 →
    ¬ (p.hasCfg = true ∧ (s.det p).adr = 1 ∧ 8 ≤ b ∧ b < 16) →
    s.inputs.sinkData.getLsbD b ≠ w.getLsbD b →
    ∃ t, step s = .next t ∧ (t.det p).adr = 0 ∧ (t.det p).count = 0 ∧
      t.latches p = s.latches p

/-! ## The emitter -/

/-- R131, R132, R133, R72, R74 (corrected per C1; the zero bits are decision D8, and that data and marker
are driven also while `source_valid = 0` is decision D11): what the emitter offers in every state.
`source_valid` is `send or not done`, a symbol is transferred when it is also ready, and `done` is
`count == M-1`. `source_ctrl` is `FIRST_CTRL` on word 0 and 0 elsewhere. On word 1 of a pattern with
`HAS_CFG` bits 8, 10 and 11 of `source_data` carry `reset_i`, `loopback_i` and inverted `scrambling_i` of
the same tick and the rest of byte 1 is 0; every other bit is the table's. -/
def Obligations.EmitterDrivesConfigBits : Prop :=
  ∀ s : State,
    (s.emitterOutputs.done = true ↔ s.emt.count = s.config.mEmit - 1) ∧
    (s.emitterOutputs.sourceValid = true ↔
      s.inputs.send = true ∨ s.emt.count ≠ s.config.mEmit - 1) ∧
    (s.xfer = true ↔ s.emitterOutputs.sourceValid = true ∧ s.inputs.sourceReady = true) ∧
    (s.emt.adr = 0 →
      s.emitterOutputs.sourceCtrl = (s.config.table s.config.emitPattern).firstCtrl) ∧
    (s.emt.adr ≠ 0 → s.emitterOutputs.sourceCtrl = 0) ∧
    ∀ (w : Data) (b : Nat),
      (s.config.table s.config.emitPattern).words[s.emt.adr]? = some w → b < 32 →
      s.emitterOutputs.sourceData.getLsbD b =
        if s.config.emitPattern.hasCfg = true ∧ s.emt.adr = 1 ∧ 8 ≤ b ∧ b < 16 then
          (if b = 8 then s.inputs.resetI
           else if b = 10 then s.inputs.loopbackI
           else if b = 11 then !s.inputs.scramblingI
           else false)
        else w.getLsbD b

/-- R137: EMT.IDLE, with no symbol offered: the cursor and `run` go to 0, `count` and `done` are kept.
-/
def Obligations.EmtIdleHoldsAtZero : Prop :=
  ∀ s : State,
    (s.selected .emt = .ok .emtIdle ↔
      s.inputs.rst = false ∧ s.emtDone = true ∧ s.inputs.send = false) ∧
    (s.selected .emt = .ok .emtIdle → s.sourceValid = false) ∧
    ∃ t, exec .emtIdle s = .next t ∧ t.emt.adr = 0 ∧ t.emt.run = false ∧
      t.emt.count = s.emt.count ∧ t.emtDone = s.emtDone ∧ EmtFrame s t

/-- R138 (its priority is decision D9): EMT.START transfers the symbol at the cursor and begins an
emission. -/
def Obligations.EmtStartBeginsEmission : Prop :=
  ∀ s : State,
    (s.selected .emt = .ok .emtStart ↔
      s.inputs.rst = false ∧ s.emtDone = true ∧ s.inputs.send = true ∧
      s.inputs.sourceReady = true) ∧
    (s.selected .emt = .ok .emtStart → s.xfer = true) ∧
    ∃ t, exec .emtStart s = .next t ∧
      t.emt.adr = (s.emt.adr + 1) % s.config.emitDepth ∧ t.emt.run = true ∧ t.emt.count = 0 ∧
      (2 ≤ s.config.mEmit → t.emtDone = false) ∧ EmtFrame s t

/-- R139: EMT.RUN, whatever `send` is, transfers the symbol at the cursor and counts it. -/
def Obligations.EmtRunAdvances : Prop :=
  ∀ s : State,
    (s.selected .emt = .ok .emtRun ↔
      s.inputs.rst = false ∧ s.emtDone = false ∧ s.inputs.sourceReady = true) ∧
    (s.selected .emt = .ok .emtRun → s.xfer = true) ∧
    ∃ t, exec .emtRun s = .next t ∧
      t.emt.adr = (s.emt.adr + 1) % s.config.emitDepth ∧ t.emt.count = s.emt.count + 1 ∧
      t.emt.run = s.emt.run ∧ (t.emtDone = true ↔ s.emt.count + 2 = s.config.mEmit) ∧
      EmtFrame s t

/-- R140 (decision D10): a symbol offered and not accepted, under each of the three policies: refused;
held; or the pattern begun again while `count` and `run` go on as by START or RUN. -/
def Obligations.EmitterStallFollowsPolicy : Prop :=
  ∀ s : State,
    (s.selected .emt = .ok .emtStallStart ↔
      s.inputs.rst = false ∧ s.emtDone = true ∧ s.inputs.send = true ∧
      s.inputs.sourceReady = false) ∧
    (s.selected .emt = .ok .emtStallRun ↔
      s.inputs.rst = false ∧ s.emtDone = false ∧ s.inputs.sourceReady = false) ∧
    (s.config.stallPolicy = .refuse →
      exec .emtStallStart s = .refused .emitterStalled ∧
      exec .emtStallRun s = .refused .emitterStalled) ∧
    (s.config.stallPolicy = .hold →
      exec .emtStallStart s = .next s ∧ exec .emtStallRun s = .next s) ∧
    (s.config.stallPolicy = .restart →
      (∃ t, exec .emtStallStart s = .next t ∧ t.emt.adr = 0 ∧ t.emt.count = 0 ∧
        t.emt.run = true ∧ EmtFrame s t) ∧
      ∃ t, exec .emtStallRun s = .next t ∧ t.emt.adr = 0 ∧
        t.emt.count = s.emt.count + 1 ∧ t.emt.run = s.emt.run ∧ EmtFrame s t)

/-- R141 (decision D1): EMT.RESET leaves `adr = 0`, `count = M-1`, `run = 0`, so `done` reads 1. -/
def Obligations.EmtResetLeavesDone : Prop :=
  ∀ s : State,
    (s.selected .emt = .ok .emtReset ↔ s.inputs.rst = true) ∧
    ∃ t, exec .emtReset s = .next t ∧ t.emt.adr = 0 ∧
      t.emt.count = s.config.mEmit - 1 ∧ t.emt.run = false ∧ t.emtDone = true ∧ EmtFrame s t

/-- R142 (an inference the spec marks as its own): an EMT.START at tick 0 of a run, under the consumer
contract, transfers exactly one symbol a tick for `M` ticks, words 0 to `DEPTH-1` in order over and
over, whatever `send` does meanwhile; `done` reads 0 from tick 1 to tick `M-1` and 1 at tick `M`. -/
def Obligations.OneStartSendsWholeRepetitions : Prop :=
  ∀ σ : Nat → State, Run (σ 0).config.mEmit σ → (σ 0).config.wellFormed = true →
    (σ 0).emt.adr = 0 → (σ 0).emtDone = true → (σ 0).inputs.send = true →
    (∀ k, k < (σ 0).config.mEmit →
      (σ k).inputs.rst = false ∧ (σ k).inputs.sourceReady = true) →
    let c := (σ 0).config
    (∀ k, k < c.mEmit → (σ k).xfer = true ∧ (σ k).emt.adr = k % c.emitDepth ∧
      (σ k).sourceCtrl = expCtrl c c.emitPattern (k % c.emitDepth) ∧
      (σ k).sourceData =
        if c.emitPattern.hasCfg = true ∧ k % c.emitDepth = 1 then
          substituteByte1 (patRead c c.emitPattern 1) (linkConfig (σ k).inputs)
        else patRead c c.emitPattern (k % c.emitDepth)) ∧
    (∀ k, 0 < k → k < c.mEmit → (σ k).emtDone = false) ∧
    (σ c.mEmit).emtDone = true ∧ (σ c.mEmit).emt.adr = 0 ∧ (σ c.mEmit).emt.run = true

/-- R144 (an inference the spec marks as its own): with `send` held at 1 under the consumer contract, from
a tick with `done`, a symbol is offered on every tick, the cursor runs through the pattern over and
over, and `done` reads 1, with EMT.START performed, on exactly every `M`-th tick. -/
def Obligations.ContinuousSendNeverPauses : Prop :=
  ∀ (n : Nat) (σ : Nat → State), Run n σ → (σ 0).config.wellFormed = true →
    (σ 0).emt.adr = 0 → (σ 0).emtDone = true →
    (∀ k, k < n → (σ k).inputs.rst = false ∧ (σ k).inputs.send = true ∧
      (σ k).inputs.sourceReady = true) →
    (∀ k, k ≤ n → (σ k).emt.adr = k % (σ 0).config.emitDepth ∧
      ((σ k).emtDone = true ↔ k % (σ 0).config.mEmit = 0)) ∧
    ∀ k, k < n → (σ k).sourceValid = true ∧
      ((σ k).selected .emt = .ok .emtStart ↔ k % (σ 0).config.mEmit = 0)

/-- R147 (an inference the spec marks as its own), S6: a config word of an emitter looped into a
detector of its pattern, both at index 1, leaves the live flags of that tick in the detector's latches.
-/
def Obligations.ConfigWordRoundTrip : Prop :=
  ∀ s : State, s.config.wellFormed = true → s.inRange = true →
    s.inputs = s.looped.inputs → s.inputs.rst = false → s.sourceValid = true →
    s.config.emitPattern.hasCfg = true → s.emt.adr = 1 →
    (s.det s.config.emitPattern).adr = 1 →
    ∃ t, step s = .next t ∧
      t.resetO s.config.emitPattern = some s.inputs.resetI ∧
      t.loopbackO s.config.emitPattern = some s.inputs.loopbackI ∧
      t.scramblingO s.config.emitPattern = some s.inputs.scramblingI

/-- S4 (95 section 1) with R121 and C8: an emitter looped into a detector of its pattern and repetition
length, started at tick 0 of a run: `detected` reads 1 exactly from tick `M-1` on, however `send` goes
on and also after the stream stops. -/
def Obligations.LoopedEmitterIsDetected : Prop :=
  ∀ (n : Nat) (σ : Nat → State), Run n σ →
    let c := (σ 0).config
    c.mDet c.emitPattern = c.mEmit →
    (σ 0).det c.emitPattern = { adr := 0, count := 0 } →
    (σ 0).emt.adr = 0 → (σ 0).emtDone = true → (σ 0).inputs.send = true →
    (∀ k, k < n → (σ k).inputs.rst = false ∧ (σ k).inputs = (σ k).looped.inputs) →
    c.wellFormed = true →
    ∀ k, k ≤ n → ((σ k).detected c.emitPattern = true ↔ c.mEmit - 1 ≤ k)

/-! ## The oscillator -/

/-- R155 (decision D13): OSC.IDLE ends a `done` pulse and keeps `busy` and `remaining`. -/
def Obligations.OscIdleEndsDonePulse : Prop :=
  ∀ (o : OscId) (s : State),
    (s.selected (.osc o) = .ok (.oscIdle o) ↔
      s.oscRst o = false ∧ (s.osc o).busy = false ∧ s.oscStart o = false) ∧
    ∃ t, exec (.oscIdle o) s = .next t ∧ (t.osc o).doneQ = false ∧
      (t.osc o).busy = (s.osc o).busy ∧ (t.osc o).remaining = (s.osc o).remaining ∧
      OscFrame o s t

/-- R156 (decision D13), R36: OSC.START accepts a burst of `length` active ticks, the constant `L` for
the sequencer's oscillator. -/
def Obligations.OscStartAcceptsBurst : Prop :=
  ∀ (o : OscId) (s : State),
    (s.selected (.osc o) = .ok (.oscStart o) ↔
      s.oscRst o = false ∧ (s.osc o).busy = false ∧ s.oscStart o = true ∧ s.oscLength o ≠ 0) ∧
    ∃ t, exec (.oscStart o) s = .next t ∧ (t.osc o).busy = true ∧
      (o = .bare → (t.osc o).remaining = s.inputs.oscLength) ∧
      (o = .sequencer → (t.osc o).remaining = BitVec.ofNat 32 s.config.burstLength) ∧
      (t.osc o).doneQ = false ∧ t.txIdle o = false ∧ OscFrame o s t

/-- R157 (decision D30): OSC.START0, a zero-length start, gives no active tick and `done` at once. -/
def Obligations.OscZeroLengthStartIsDoneAtOnce : Prop :=
  ∀ (o : OscId) (s : State),
    (s.selected (.osc o) = .ok (.oscStartZero o) ↔
      s.oscRst o = false ∧ (s.osc o).busy = false ∧ s.oscStart o = true ∧ s.oscLength o = 0) ∧
    ∃ t, exec (.oscStartZero o) s = .next t ∧ (t.osc o).doneQ = true ∧
      (t.osc o).busy = (s.osc o).busy ∧ (t.osc o).remaining = (s.osc o).remaining ∧
      OscFrame o s t

/-- R158, R161 (decisions D13, D14): OSC.RUN counts one active tick, whatever `start` and `length` are.
On `remaining = 0`, which R88 and R164 leave without meaning, it is stuck (log entry 7). -/
def Obligations.OscRunCountsDown : Prop :=
  ∀ (o : OscId) (s : State),
    (s.selected (.osc o) = .ok (.oscRun o) ↔
      s.oscRst o = false ∧ (s.osc o).busy = true ∧ (s.osc o).remaining ≠ 1) ∧
    ((s.osc o).remaining ≠ 0 → ∃ t, exec (.oscRun o) s = .next t ∧
      (t.osc o).remaining.toNat = (s.osc o).remaining.toNat - 1 ∧ (t.osc o).doneQ = false ∧
      (t.osc o).busy = (s.osc o).busy ∧ OscFrame o s t) ∧
    ((s.osc o).remaining = 0 → exec (.oscRun o) s = .fault .unreachableState)

/-- R159 (decision D13): OSC.LAST ends the burst and starts the `done` pulse. -/
def Obligations.OscLastEndsBurst : Prop :=
  ∀ (o : OscId) (s : State),
    (s.selected (.osc o) = .ok (.oscLast o) ↔
      s.oscRst o = false ∧ (s.osc o).busy = true ∧ (s.osc o).remaining = 1) ∧
    ∃ t, exec (.oscLast o) s = .next t ∧ (t.osc o).busy = false ∧ (t.osc o).remaining = 0 ∧
      (t.osc o).doneQ = true ∧ t.txIdle o = true ∧ t.oscDone o = true ∧ OscFrame o s t

/-- R160 (decision D1): OSC.RESET cuts a burst without a `done` pulse, and WAVE.RESET returns the wave
to its phase 0. -/
def Obligations.OscAndWaveResetClear : Prop :=
  ∀ (o : OscId) (s : State),
    (s.selected (.osc o) = .ok (.oscReset o) ↔ s.oscRst o = true) ∧
    (s.selected (.wave o) = .ok (.waveReset o) ↔ s.oscRst o = true) ∧
    (∃ t, exec (.oscReset o) s = .next t ∧ (t.osc o).busy = false ∧ (t.osc o).remaining = 0 ∧
      (t.osc o).doneQ = false ∧ t.txIdle o = true ∧ t.txPattern o = false ∧ OscFrame o s t) ∧
    ∃ t, exec (.waveReset o) s = .next t ∧ (t.osc o).halfCnt = 0 ∧ (t.osc o).level = false ∧
      WaveFrame o s t

/-- R153, R154 (decision D15): WAVE.COUNT adds one to `half_cnt` and WAVE.TOGGLE, at `HALF-1`, clears it
and inverts `level`, whether or not a burst is in progress. -/
def Obligations.WaveCountsAndToggles : Prop :=
  ∀ (o : OscId) (s : State),
    (s.selected (.wave o) = .ok (.waveCount o) ↔
      s.oscRst o = false ∧ (s.osc o).halfCnt ≠ s.config.half - 1) ∧
    (s.selected (.wave o) = .ok (.waveToggle o) ↔
      s.oscRst o = false ∧ (s.osc o).halfCnt = s.config.half - 1) ∧
    (∃ t, exec (.waveCount o) s = .next t ∧ (t.osc o).halfCnt = (s.osc o).halfCnt + 1 ∧
      (t.osc o).level = (s.osc o).level ∧ WaveFrame o s t) ∧
    ∃ t, exec (.waveToggle o) s = .next t ∧ (t.osc o).halfCnt = 0 ∧
      (t.osc o).level = !(s.osc o).level ∧ WaveFrame o s t

/-- R152 (decision D15): the wave runs freely from its reset phase: after `n` ticks without reset
`half_cnt = n mod HALF` and `level = floor(n / HALF) mod 2`, whatever bursts there were. -/
def Obligations.WaveRunsFreely : Prop :=
  ∀ (n : Nat) (σ : Nat → State) (o : OscId), Run n σ →
    ((σ 0).osc o).halfCnt = 0 → ((σ 0).osc o).level = false →
    (∀ k, k < n → (σ k).oscRst o = false) →
    1 ≤ (σ 0).config.half →
    ((σ n).osc o).halfCnt = n % (σ 0).config.half ∧
    (((σ n).osc o).level = true ↔ n / (σ 0).config.half % 2 = 1)

/-- R162 (an inference the spec marks as its own, with decisions D13, D14, D15 and D30): one burst, from
the tick of its OSC.START, whatever `start` does meanwhile: `length` active ticks, OSC.RUN on all of them
but OSC.LAST on the last; then `done` on the first idle tick, and no longer unless that tick is a
zero-length start. On an active tick `tx_pattern` is `floor(u / HALF) mod 2`, where `u` counts the ticks of
the free-running wave (R152: `u` ticks after reset its phase is `u mod HALF` and its level
`floor(u / HALF) mod 2`). -/
def Obligations.BurstHasItsLength : Prop :=
  ∀ (n : Nat) (σ : Nat → State) (o : OscId), Run (n + 1) σ →
    (σ 0).selected (.osc o) = .ok (.oscStart o) → ((σ 0).oscLength o).toNat = n →
    (∀ k, k ≤ n → (σ k).oscRst o = false) →
    (σ 0).txIdle o = true ∧
    (∀ k, 1 ≤ k → k ≤ n → (σ k).txIdle o = false ∧ (σ k).oscDone o = false ∧
      ((σ k).osc o).remaining.toNat = n + 1 - k ∧
      (k < n → (σ k).selected (.osc o) = .ok (.oscRun o))) ∧
    (σ n).selected (.osc o) = .ok (.oscLast o) ∧
    (σ (n + 1)).txIdle o = true ∧ (σ (n + 1)).oscDone o = true ∧
    (∀ t, step (σ (n + 1)) = .next t →
      (t.oscDone o = true ↔ (σ (n + 1)).selected (.osc o) = .ok (.oscStartZero o))) ∧
    ∀ u, ((σ 0).osc o).halfCnt = u % (σ 0).config.half →
      (((σ 0).osc o).level = true ↔ u / (σ 0).config.half % 2 = 1) →
      ∀ k, 1 ≤ k → k ≤ n →
        ((σ k).txPattern o = true ↔ (u + k) / (σ 0).config.half % 2 = 1)

/-- R165 (an inference the spec marks as its own, with decisions D13 and D30): with `start` held at 1 and
`length` constant, from an idle tick, bursts of `length` active ticks are separated by exactly one idle
tick, which carries `done`; with `length = 0` every tick is idle and carries `done` but the first. -/
def Obligations.StartHeldRepeatsBursts : Prop :=
  ∀ (n : Nat) (σ : Nat → State) (len : BurstTicks), Run n σ →
    ((σ 0).osc .bare).busy = false →
    (∀ k, k < n → (σ k).inputs.oscRst = false ∧ (σ k).inputs.oscStart = true ∧
      (σ k).inputs.oscLength = len) →
    ∀ k, k ≤ n → ((σ k).txIdle .bare = true ↔ k % (len.toNat + 1) = 0) ∧
      (0 < k → ((σ k).oscDone .bare = true ↔ k % (len.toNat + 1) = 0))

/-- R163 (an inference the spec marks as its own, with decision D15): over any `n` consecutive active
ticks, the number `h` of ticks with `tx_pattern = 1` is within `HALF / 2` of `n / 2`, and the number
`c` of changes of `tx_pattern` lies between `floor((n-1)/HALF)` and one more. -/
def Obligations.BurstDutyCycleIsBounded : Prop :=
  ∀ (n : Nat) (σ : Nat → State) (o : OscId), Run n σ →
    (∀ k, k < n → (σ k).oscRst o = false ∧ (σ k).txIdle o = false) →
    let half := (σ 0).config.half
    let h := (List.range n).countP (fun k => (σ k).txPattern o)
    let c := (List.range (n - 1)).countP (fun k => (σ k).txPattern o != (σ (k + 1)).txPattern o)
    2 * h ≤ n + half ∧ n ≤ 2 * h + half ∧ (n - 1) / half ≤ c ∧ c ≤ (n - 1) / half + 1

/-! ## The sequencer -/

/-- R172 (decision D19): SEQ.WAIT, the sequencer armed and not polled, does not fire and changes
nothing. -/
def Obligations.SeqWaitKeepsEverything : Prop :=
  ∀ s : State,
    (s.selected .seq = .ok .seqWait ↔
      s.inputs.rst = false ∧ s.repCnt = 0 ∧ s.inputs.polling = false) ∧
    (s.selected .seq = .ok .seqWait → s.fire = false) ∧
    exec .seqWait s = .next s

/-- R173 (decision D19): SEQ.FIRE, with `fire = 1`, begins a period: `rep_cnt` becomes 1. That the operation
itself leaves the wrapped oscillator as it was, the oscillator's own OSC.START of the same tick starting
the burst, is the model's choice (log entry 15). -/
def Obligations.SeqFireBeginsPeriod : Prop :=
  ∀ s : State,
    (s.selected .seq = .ok .seqFire ↔
      s.inputs.rst = false ∧ s.repCnt = 0 ∧ s.inputs.polling = true) ∧
    (s.selected .seq = .ok .seqFire → s.fire = true) ∧
    ∃ t, exec .seqFire s = .next t ∧ t.repCnt = 1 ∧ SeqFrame s t

/-- R174, R175 (decision D19): SEQ.COUNT adds one to `rep_cnt` and SEQ.WRAP returns it to 0 from `P-1`,
whatever `polling` is. -/
def Obligations.SeqCountsAndWraps : Prop :=
  ∀ s : State,
    (s.selected .seq = .ok .seqCount ↔
      s.inputs.rst = false ∧ s.repCnt ≠ 0 ∧ s.repCnt ≠ s.config.burstPeriod - 1) ∧
    (s.selected .seq = .ok .seqWrap ↔
      s.inputs.rst = false ∧ s.repCnt ≠ 0 ∧ s.repCnt = s.config.burstPeriod - 1) ∧
    (∃ t, exec .seqCount s = .next t ∧ t.repCnt = s.repCnt + 1 ∧ SeqFrame s t) ∧
    ∃ t, exec .seqWrap s = .next t ∧ t.repCnt = 0 ∧ SeqFrame s t

/-- R176 (decision D1): SEQ.RESET clears `rep_cnt`, in the same tick as OSC.RESET and WAVE.RESET of its
oscillator. That the operation itself leaves the oscillators as they were, those two operations
clearing the wrapped one, is the model's choice (log entry 15). -/
def Obligations.SeqResetArms : Prop :=
  ∀ s : State,
    (s.selected .seq = .ok .seqReset ↔ s.inputs.rst = true) ∧
    (s.inputs.rst = true →
      s.selected (.osc .sequencer) = .ok (.oscReset .sequencer) ∧
      s.selected (.wave .sequencer) = .ok (.waveReset .sequencer)) ∧
    ∃ t, exec .seqReset s = .next t ∧ t.repCnt = 0 ∧ SeqFrame s t

/-- R171, R178 (an inference the spec marks as its own, with decision D19): a `fire` is never lost, and
never a zero-length start: in a state of the invariant the sequencer's oscillator performs OSC.START in
the same tick. -/
def Obligations.FireAlwaysStartsABurst : Prop :=
  ∀ s : State, Inv s → s.inputs.rst = false → s.fire = true →
    s.selected .seq = .ok .seqFire ∧
    s.selected (.osc .sequencer) = .ok (.oscStart .sequencer)

/-- R177 (an inference the spec marks as its own, with decision D19): under continuous polling from an
armed state, bursts start exactly every `P` ticks, each has exactly `L` active ticks, and each gives
one `burst_done` pulse right after them. -/
def Obligations.PollingRepeatsBursts : Prop :=
  ∀ (n : Nat) (σ : Nat → State), Run n σ → Inv (σ 0) → (σ 0).repCnt = 0 →
    (∀ k, k < n → (σ k).inputs.rst = false ∧ (σ k).inputs.polling = true) →
    let l := (σ 0).config.burstLength
    let p := (σ 0).config.burstPeriod
    (∀ k, k < n → ((σ k).fire = true ↔ k % p = 0)) ∧
    ∀ k, k ≤ n →
      ((σ k).txIdle .sequencer = false ↔ 1 ≤ k % p ∧ k % p ≤ l) ∧
      (0 < k → ((σ k).oscDone .sequencer = true ↔ k % p = (l + 1) % p))

/-! ## The configuration -/

/-- R77 (decision D16): the default `HALF` is the rational `S/(2f)` rounded to the nearest integer, ties
up, and at least 1. -/
def Obligations.HalfPeriodIsNearest : Prop :=
  ∀ rate freq : Ratio, rate.positive = true → freq.positive = true →
    halfFrom rate freq =
      max 1 ⌊((rate.num : ℚ) / rate.den) / (2 * ((freq.num : ℚ) / freq.den)) + 1 / 2⌋₊

/-- R7, R105, R182, R215 (decision D25): an unknown pattern name is refused as such,
also where a constraint fails too (that the name goes first is the model's choice, log entry 22). A
request with a known name is built exactly when its constraints hold, and what is built has the tables, the repeat counts,
the pattern, `HALF`, `L`, `P` and the policy of the request; else it is refused as ill-formed. `HALF` from a
frequency is R77's default (decision D16) and the default policy is `refuse` (decision D10). That `L` and
`P` may be given as durations, and that a rate or a duration of 0 is refused, is the model's choice (R78
only suggests it, log entry 19). A machine that is built stands in its reset state (decision D1), with
the lines and wires the model chose there (log entries 4, 14 and 21). -/
def Obligations.OnlyWellFormedConfigurationsAreBuilt : Prop :=
  ∀ q : ConfigRequest,
    (build q = .error .unknownPattern ↔
      q.emitPattern ≠ "FRAMING" ∧ q.emitPattern ≠ "TRAIN_A" ∧ q.emitPattern ≠ "TRAIN_B") ∧
    (∀ s, build q = .ok s →
      Requested q s.config ∧ q.ratiosOk = true ∧ s.config.wellFormed = true ∧
        s = State.resetWith s.config) ∧
    ∀ c : Config, Requested q c →
      (q.ratiosOk = true → c.wellFormed = true → build q = .ok (State.resetWith c)) ∧
      (q.ratiosOk = false ∨ c.wellFormed = false → build q = .error .illFormedConfig)

/-- R22, R27, R31, R35: in a state of the invariant every counter fits the least width that holds its
range, `max(1, ceil(log2(K)))` bits. -/
def Obligations.CountersFitTheirWidths : Prop :=
  ∀ s : State, Inv s →
    (∀ p, (s.det p).adr < 2 ^ max 1 (Nat.clog 2 (s.config.depth p)) ∧
      (s.det p).count < 2 ^ max 1 (Nat.clog 2 (s.config.mDet p))) ∧
    s.emt.adr < 2 ^ max 1 (Nat.clog 2 s.config.emitDepth) ∧
    s.emt.count < 2 ^ max 1 (Nat.clog 2 s.config.mEmit) ∧
    (∀ o, (s.osc o).halfCnt < 2 ^ max 1 (Nat.clog 2 s.config.half)) ∧
    s.repCnt < 2 ^ max 1 (Nat.clog 2 s.config.burstPeriod)

/-! ## The outputs -/

/-- R113, R131, R151, R171, R192 (same-tick outputs: decision D27; idle line at 0: decision D15; `burst_done`:
decision D20): the outputs of every state, from its registers. `sink_ready` is always 1, `detected` and
the emitter's `done` are `count == M-1`, the flag outputs are the latches and absent for FRAMING, and each
burst engine drives `tx_idle`, `tx_pattern` and `done` from its oscillator. -/
def Obligations.OutputsFollowTheRegisters : Prop :=
  ∀ s : State,
    (∀ p, (s.detectorOutputs p).sinkReady = true ∧
      ((s.detectorOutputs p).detected = true ↔ (s.det p).count = s.config.mDet p - 1)) ∧
    s.outputs.framing = s.detectorOutputs .framing ∧
    s.outputs.framing.resetO = none ∧ s.outputs.framing.loopbackO = none ∧
    s.outputs.framing.scramblingO = none ∧
    s.outputs.trainA = s.detectorOutputs .trainA ∧
    s.outputs.trainA.resetO = some s.cfgTrainA.reset ∧
    s.outputs.trainA.loopbackO = some s.cfgTrainA.loopback ∧
    s.outputs.trainA.scramblingO = some s.cfgTrainA.scrambling ∧
    s.outputs.trainB = s.detectorOutputs .trainB ∧
    s.outputs.trainB.resetO = some s.cfgTrainB.reset ∧
    s.outputs.trainB.loopbackO = some s.cfgTrainB.loopback ∧
    s.outputs.trainB.scramblingO = some s.cfgTrainB.scrambling ∧
    s.outputs.emitter = s.emitterOutputs ∧
    (s.outputs.emitter.done = true ↔ s.emt.count = s.config.mEmit - 1) ∧
    s.outputs.sequencer = s.burstOutputs .sequencer ∧ s.outputs.bare = s.burstOutputs .bare ∧
    ∀ o, ((s.burstOutputs o).txIdle = true ↔ (s.osc o).busy = false) ∧
      ((s.burstOutputs o).txPattern = true ↔ (s.osc o).busy = true ∧ (s.osc o).level = true) ∧
      ((s.burstOutputs o).done = true ↔ (s.osc o).doneQ = true)
end

