-- ==== Sys2Proof/Laws/State.lean ====
section
/-! SUPPORT. The small lemmas of the state: what each accessor reads after each update. -/

namespace Sys2Proof.Machine

/-! ## Writing a detector's registers -/

@[simp] theorem det_setDet_same (s : State) (p : Pattern) (d : Detector) : (s.setDet p d).det p = d := by
  cases p <;> rfl
theorem det_setDet_ne (s : State) (p q : Pattern) (d : Detector) (h : q ≠ p) :
    (s.setDet p d).det q = s.det q := by cases p <;> cases q <;> first | rfl | exact absurd rfl h
@[simp] theorem latches_setDet (s : State) (p q : Pattern) (d : Detector) :
    (s.setDet p d).latches q = s.latches q := by cases p <;> cases q <;> rfl
@[simp] theorem emt_setDet (s : State) (p : Pattern) (d : Detector) : (s.setDet p d).emt = s.emt := by
  cases p <;> rfl
@[simp] theorem repCnt_setDet (s : State) (p : Pattern) (d : Detector) :
    (s.setDet p d).repCnt = s.repCnt := by cases p <;> rfl
@[simp] theorem osc_setDet (s : State) (p : Pattern) (d : Detector) (o : OscId) :
    (s.setDet p d).osc o = s.osc o := by cases p <;> cases o <;> rfl
@[simp] theorem wires_setDet (s : State) (p : Pattern) (d : Detector) (r : Reader) :
    (s.setDet p d).wires r = s.wires r := by
  rcases r with (_ | _ | _) | _ <;> cases p <;> rfl
@[simp] theorem config_setDet (s : State) (p : Pattern) (d : Detector) :
    (s.setDet p d).config = s.config := by cases p <;> rfl
@[simp] theorem inputs_setDet (s : State) (p : Pattern) (d : Detector) :
    (s.setDet p d).inputs = s.inputs := by cases p <;> rfl
@[simp] theorem pending_setDet (s : State) (p : Pattern) (d : Detector) :
    (s.setDet p d).pending = s.pending := by cases p <;> rfl
@[simp] theorem tick_setDet (s : State) (p : Pattern) (d : Detector) :
    (s.setDet p d).tick = s.tick := by cases p <;> rfl

/-! ## Writing a detector's latches -/

@[simp] theorem det_setLatches (s : State) (p q : Pattern) (l : LinkConfig) :
    (s.setLatches p l).det q = s.det q := by cases p <;> cases q <;> rfl
theorem latches_setLatches_same (s : State) (p : Pattern) (l : LinkConfig) (h : p.hasCfg = true) :
    (s.setLatches p l).latches p = some l := by
  cases p
  · exact absurd h (by decide)
  · rfl
  · rfl
theorem latches_setLatches_ne (s : State) (p q : Pattern) (l : LinkConfig) (h : q ≠ p) :
    (s.setLatches p l).latches q = s.latches q := by
  cases p <;> cases q <;> first | rfl | exact absurd rfl h
@[simp] theorem emt_setLatches (s : State) (p : Pattern) (l : LinkConfig) :
    (s.setLatches p l).emt = s.emt := by cases p <;> rfl
@[simp] theorem repCnt_setLatches (s : State) (p : Pattern) (l : LinkConfig) :
    (s.setLatches p l).repCnt = s.repCnt := by cases p <;> rfl
@[simp] theorem osc_setLatches (s : State) (p : Pattern) (l : LinkConfig) (o : OscId) :
    (s.setLatches p l).osc o = s.osc o := by cases p <;> cases o <;> rfl
@[simp] theorem wires_setLatches (s : State) (p : Pattern) (l : LinkConfig) (r : Reader) :
    (s.setLatches p l).wires r = s.wires r := by
  rcases r with (_ | _ | _) | _ <;> cases p <;> rfl
@[simp] theorem config_setLatches (s : State) (p : Pattern) (l : LinkConfig) :
    (s.setLatches p l).config = s.config := by cases p <;> rfl
@[simp] theorem inputs_setLatches (s : State) (p : Pattern) (l : LinkConfig) :
    (s.setLatches p l).inputs = s.inputs := by cases p <;> rfl
@[simp] theorem pending_setLatches (s : State) (p : Pattern) (l : LinkConfig) :
    (s.setLatches p l).pending = s.pending := by cases p <;> rfl
@[simp] theorem tick_setLatches (s : State) (p : Pattern) (l : LinkConfig) :
    (s.setLatches p l).tick = s.tick := by cases p <;> rfl

/-! ## Writing an oscillator's registers -/

@[simp] theorem det_setOsc (s : State) (o : OscId) (x : Oscillator) (q : Pattern) :
    (s.setOsc o x).det q = s.det q := by cases o <;> cases q <;> rfl
@[simp] theorem latches_setOsc (s : State) (o : OscId) (x : Oscillator) (q : Pattern) :
    (s.setOsc o x).latches q = s.latches q := by cases o <;> cases q <;> rfl
@[simp] theorem emt_setOsc (s : State) (o : OscId) (x : Oscillator) : (s.setOsc o x).emt = s.emt := by
  cases o <;> rfl
@[simp] theorem repCnt_setOsc (s : State) (o : OscId) (x : Oscillator) :
    (s.setOsc o x).repCnt = s.repCnt := by cases o <;> rfl
@[simp] theorem osc_setOsc_same (s : State) (o : OscId) (x : Oscillator) : (s.setOsc o x).osc o = x := by
  cases o <;> rfl
theorem osc_setOsc_ne (s : State) (o q : OscId) (x : Oscillator) (h : q ≠ o) :
    (s.setOsc o x).osc q = s.osc q := by cases o <;> cases q <;> first | rfl | exact absurd rfl h
@[simp] theorem wires_setOsc (s : State) (o : OscId) (x : Oscillator) (r : Reader) :
    (s.setOsc o x).wires r = s.wires r := by
  rcases r with (_ | _ | _) | _ <;> cases o <;> rfl
@[simp] theorem config_setOsc (s : State) (o : OscId) (x : Oscillator) :
    (s.setOsc o x).config = s.config := by cases o <;> rfl
@[simp] theorem inputs_setOsc (s : State) (o : OscId) (x : Oscillator) :
    (s.setOsc o x).inputs = s.inputs := by cases o <;> rfl
@[simp] theorem pending_setOsc (s : State) (o : OscId) (x : Oscillator) :
    (s.setOsc o x).pending = s.pending := by cases o <;> rfl
@[simp] theorem tick_setOsc (s : State) (o : OscId) (x : Oscillator) :
    (s.setOsc o x).tick = s.tick := by cases o <;> rfl

/-! ## Driving a reader's wires -/

@[simp] theorem det_setWires (s : State) (r : Reader) (w : PatWires) (q : Pattern) :
    (s.setWires r w).det q = s.det q := by
  rcases r with (_ | _ | _) | _ <;> cases q <;> rfl
@[simp] theorem latches_setWires (s : State) (r : Reader) (w : PatWires) (q : Pattern) :
    (s.setWires r w).latches q = s.latches q := by
  rcases r with (_ | _ | _) | _ <;> cases q <;> rfl
@[simp] theorem emt_setWires (s : State) (r : Reader) (w : PatWires) : (s.setWires r w).emt = s.emt := by
  rcases r with (_ | _ | _) | _ <;> rfl
@[simp] theorem repCnt_setWires (s : State) (r : Reader) (w : PatWires) :
    (s.setWires r w).repCnt = s.repCnt := by rcases r with (_ | _ | _) | _ <;> rfl
@[simp] theorem osc_setWires (s : State) (r : Reader) (w : PatWires) (o : OscId) :
    (s.setWires r w).osc o = s.osc o := by
  rcases r with (_ | _ | _) | _ <;> cases o <;> rfl
@[simp] theorem wires_setWires_same (s : State) (r : Reader) (w : PatWires) :
    (s.setWires r w).wires r = w := by rcases r with (_ | _ | _) | _ <;> rfl
theorem wires_setWires_ne (s : State) (r q : Reader) (w : PatWires) (h : q ≠ r) :
    (s.setWires r w).wires q = s.wires q := by
  rcases r with (_ | _ | _) | _ <;> rcases q with (_ | _ | _) | _ <;>
    first | rfl | exact absurd rfl h
@[simp] theorem config_setWires (s : State) (r : Reader) (w : PatWires) :
    (s.setWires r w).config = s.config := by rcases r with (_ | _ | _) | _ <;> rfl
@[simp] theorem inputs_setWires (s : State) (r : Reader) (w : PatWires) :
    (s.setWires r w).inputs = s.inputs := by rcases r with (_ | _ | _) | _ <;> rfl
@[simp] theorem pending_setWires (s : State) (r : Reader) (w : PatWires) :
    (s.setWires r w).pending = s.pending := by rcases r with (_ | _ | _) | _ <;> rfl
@[simp] theorem tick_setWires (s : State) (r : Reader) (w : PatWires) :
    (s.setWires r w).tick = s.tick := by rcases r with (_ | _ | _) | _ <;> rfl

/-! ## Writing the emitter's registers or `rep_cnt` -/

@[simp] theorem det_withEmt (s : State) (e : Emitter) (q : Pattern) :
    State.det { s with emt := e } q = s.det q := by cases q <;> rfl
@[simp] theorem latches_withEmt (s : State) (e : Emitter) (q : Pattern) :
    State.latches { s with emt := e } q = s.latches q := by cases q <;> rfl
@[simp] theorem osc_withEmt (s : State) (e : Emitter) (o : OscId) :
    State.osc { s with emt := e } o = s.osc o := by cases o <;> rfl
@[simp] theorem wires_withEmt (s : State) (e : Emitter) (r : Reader) :
    State.wires { s with emt := e } r = s.wires r := by rcases r with (_ | _ | _) | _ <;> rfl
@[simp] theorem det_withRepCnt (s : State) (n : Nat) (q : Pattern) :
    State.det { s with repCnt := n } q = s.det q := by cases q <;> rfl
@[simp] theorem latches_withRepCnt (s : State) (n : Nat) (q : Pattern) :
    State.latches { s with repCnt := n } q = s.latches q := by cases q <;> rfl
@[simp] theorem osc_withRepCnt (s : State) (n : Nat) (o : OscId) :
    State.osc { s with repCnt := n } o = s.osc o := by cases o <;> rfl
@[simp] theorem wires_withRepCnt (s : State) (n : Nat) (r : Reader) :
    State.wires { s with repCnt := n } r = s.wires r := by rcases r with (_ | _ | _) | _ <;> rfl

/-! ## Settling the wires -/

@[simp] theorem det_settled (s : State) (q : Pattern) : s.settled.det q = s.det q := by cases q <;> rfl
@[simp] theorem latches_settled (s : State) (q : Pattern) : s.settled.latches q = s.latches q := by
  cases q <;> rfl
@[simp] theorem emt_settled (s : State) : s.settled.emt = s.emt := rfl
@[simp] theorem repCnt_settled (s : State) : s.settled.repCnt = s.repCnt := rfl
@[simp] theorem osc_settled (s : State) (o : OscId) : s.settled.osc o = s.osc o := by cases o <;> rfl
@[simp] theorem wires_settled (s : State) (r : Reader) : s.settled.wires r = s.patWires r := by
  rcases r with (_ | _ | _) | _ <;> rfl
@[simp] theorem config_settled (s : State) : s.settled.config = s.config := rfl
@[simp] theorem inputs_settled (s : State) : s.settled.inputs = s.inputs := rfl
@[simp] theorem pending_settled (s : State) : s.settled.pending = s.pending := rfl
@[simp] theorem tick_settled (s : State) : s.settled.tick = s.tick := rfl

/-! ## The boundary to the next tick -/

@[simp] theorem det_boundary (s : State) (q : Pattern) : (boundary s).det q = s.det q := by
  cases q <;> rfl
@[simp] theorem latches_boundary (s : State) (q : Pattern) : (boundary s).latches q = s.latches q := by
  cases q <;> rfl
@[simp] theorem emt_boundary (s : State) : (boundary s).emt = s.emt := rfl
@[simp] theorem repCnt_boundary (s : State) : (boundary s).repCnt = s.repCnt := rfl
@[simp] theorem osc_boundary (s : State) (o : OscId) : (boundary s).osc o = s.osc o := by cases o <;> rfl
@[simp] theorem wires_boundary (s : State) (r : Reader) : (boundary s).wires r = s.wires r := by
  rcases r with (_ | _ | _) | _ <;> rfl
@[simp] theorem config_boundary (s : State) : (boundary s).config = s.config := rfl
@[simp] theorem pending_boundary (s : State) : (boundary s).pending = s.pending.tail := rfl
@[simp] theorem tick_boundary (s : State) : (boundary s).tick = s.tick + 1 := rfl

/-! ## The next state of a tick -/

@[simp] theorem det_nextState (s : State) (e : Emitter) (p : Pattern) :
    (nextState s e).det p = detectorNext s p := by cases p <;> rfl
@[simp] theorem latches_nextState (s : State) (e : Emitter) (p : Pattern) :
    (nextState s e).latches p = (s.latches p).map (latchesNext s p) := by cases p <;> rfl
@[simp] theorem emt_nextState (s : State) (e : Emitter) : (nextState s e).emt = e := rfl
@[simp] theorem repCnt_nextState (s : State) (e : Emitter) : (nextState s e).repCnt = repCntNext s := rfl
@[simp] theorem osc_nextState (s : State) (e : Emitter) (o : OscId) :
    (nextState s e).osc o = oscillatorNext s o := by cases o <;> rfl
@[simp] theorem wires_nextState (s : State) (e : Emitter) (r : Reader) :
    (nextState s e).wires r = s.patWires r := by rcases r with (_ | _ | _) | _ <;> rfl
@[simp] theorem config_nextState (s : State) (e : Emitter) : (nextState s e).config = s.config := rfl
@[simp] theorem inputs_nextState (s : State) (e : Emitter) :
    (nextState s e).inputs = s.pending.headD (Config.freeInputs (s.tick + 1)) := rfl
@[simp] theorem pending_nextState (s : State) (e : Emitter) :
    (nextState s e).pending = s.pending.tail := rfl
@[simp] theorem tick_nextState (s : State) (e : Emitter) : (nextState s e).tick = s.tick + 1 := rfl

end Sys2Proof.Machine
end

