-- ==== Sys2Proof/Laws/Ops.lean ====
section
/-! SUPPORT. For each shared operation, once, everything it can do. -/

namespace Sys2Proof.Machine

theorem andThen_eq_next {o : Answer} {f : State → Answer} {t : State} :
    andThen o f = .next t ↔ ∃ s, o = .next s ∧ f s = .next t := by
  cases o <;> simp [andThen]

theorem execAll_cons (i : Instr) (is : List Instr) (s : State) :
    execAll (i :: is) s = andThen (exec i s) (execAll is) := rfl

theorem execAll_append (is js : List Instr) (s : State) :
    execAll (is ++ js) s = andThen (execAll is s) (execAll js) := by
  induction is generalizing s with
  | nil => rfl
  | cons i is ih =>
    simp only [List.cons_append, execAll]
    cases h : exec i s with
    | next u => exact ih u
    | fault r => rfl
    | refused r => rfl

/-- `perform` answers a next state only by performing what the groups decode to. -/
theorem perform_eq_next {groups : List Slot} {s t : State} :
    perform groups s = .next t ↔ ∃ is, decodeAll s groups = .ok is ∧ execAll is s = .next t := by
  unfold perform
  cases h : decodeAll s groups <;> simp

theorem writeLatches_eq_next {p : Pattern} {l : LinkConfig} {s t : State} :
    writeLatches p l s = .next t ↔ p.hasCfg = true ∧ t = s.setLatches p l := by
  unfold writeLatches
  cases p.hasCfg <;> simp [eq_comm]

theorem stallEmitter_eq_next {e : Emitter} {s t : State} :
    stallEmitter e s = .next t ↔
      s.config.stallPolicy = .hold ∧ t = s ∨
      s.config.stallPolicy = .restart ∧ t = { s with emt := e } := by
  unfold stallEmitter
  cases s.config.stallPolicy <;> simp [eq_comm]

theorem recoverMismatch_det (s : State) (p : Pattern) :
    (recoverMismatch s p).det p = { adr := 0, count := 0 } := det_setDet_same s p _

/-- Inside its table, a read gives the configured word (R101). -/
theorem patRead_of_getElem? {c : Config} {p : Pattern} {adr : Nat} {w : Data}
    (h : (c.table p).words[adr]? = some w) : patRead c p adr = w := by
  simp [patRead, h]

/-- An index inside the table has a word. -/
theorem exists_word {c : Config} {p : Pattern} {adr : Nat} (h : adr < c.depth p) :
    ∃ w, (c.table p).words[adr]? = some w :=
  ⟨_, List.getElem?_eq_getElem h⟩

/-- The mask is all ones but for byte 1 of word 1 of a training pattern (R73). -/
theorem patMask_getLsbD (p : Pattern) (adr b : Nat) (hb : b < 32) :
    (patMask p adr).getLsbD b = !(p.hasCfg && adr == 1 && (decide (8 ≤ b) && decide (b < 16))) := by
  unfold patMask cfgMask
  cases p.hasCfg && adr == 1
  · simp only [Bool.false_eq_true, if_false, Bool.false_and, Bool.not_false]
    revert b; decide
  · simp only [if_true, Bool.true_and]
    revert b; decide

/-- The config byte, bit by bit (R74). -/
theorem linkConfig_getLsbD (inp : Inputs) (b : Nat) : (linkConfig inp).getLsbD b =
    if b = 0 then inp.resetI else if b = 2 then inp.loopbackI
    else if b = 3 then !inp.scramblingI else false := by
  unfold linkConfig
  by_cases hb : b < 8
  · cases inp.resetI <;> cases inp.loopbackI <;> cases inp.scramblingI <;> revert b <;> decide
  · have h1 : ∀ x : Byte, x.getLsbD b = false := fun x => BitVec.getLsbD_of_ge x b (by omega)
    rw [if_neg (by omega), if_neg (by omega), if_neg (by omega)]
    exact h1 _

/-- A word with byte 1 replaced, bit by bit (R133). -/
theorem substituteByte1_getLsbD (w : Data) (y : Byte) (b : Nat) (hb : b < 32) :
    (substituteByte1 w y).getLsbD b =
      if 8 ≤ b ∧ b < 16 then y.getLsbD (b - 8) else w.getLsbD b := by
  unfold substituteByte1
  simp only [BitVec.getLsbD_append, BitVec.getLsbD_extractLsb']
  by_cases h1 : b < 8
  · simp [h1, show ¬ 8 ≤ b by omega]
  · by_cases h2 : b < 16
    · simp [h1, show b - 8 < 8 by omega, show 8 ≤ b ∧ b < 16 by omega]
    · simp [h1, show ¬ b - 8 < 8 by omega, show ¬ (8 ≤ b ∧ b < 16) by omega,
        show b - 8 - 8 < 16 by omega, show 16 + (b - 8 - 8) = b by omega]

end Sys2Proof.Machine
end

