-- ==== Sys2Proof/Laws/PerInstr.lean ====
section
/-! SUPPORT. The family `Encoding`: what holds of every operation as syntax. -/

namespace Sys2Proof.Laws.Encoding

/-- The encoding of an operation is the one byte of its group's select vector, or no byte where the
vector is empty (R87); it fits the vector's width, and its undecoded bits are 0. -/
def Statement (i : Instr) : Prop :=
  (encode i).length = min 1 i.slot.width ∧
    ∀ v ∈ encode i, v.toNat < 2 ^ i.slot.width ∧ v &&& i.decodedBits = v

/-- The family's statement for a vector of one byte. -/
theorem of_byte (i : Instr) (v m : Byte) (n : Nat) (he : encode i = [v]) (hs : i.slot.width = n)
    (hm : i.decodedBits = m) (h : 1 ≤ n ∧ v.toNat < 2 ^ n ∧ v &&& m = v) : Statement i := by
  obtain ⟨hw, hv, hd⟩ := h
  rw [← hs] at hw hv
  rw [← hm] at hd
  refine ⟨?_, ?_⟩
  · rw [he, Nat.min_eq_left hw]; rfl
  · intro u hu
    rw [he, List.mem_singleton] at hu
    exact hu ▸ ⟨hv, hd⟩

/-- The family's statement for an empty vector. -/
theorem of_empty (i : Instr) (he : encode i = []) (hw : i.slot.width = 0) : Statement i := by
  refine ⟨by rw [he, hw]; rfl, ?_⟩
  intro u hu
  rw [he] at hu
  cases hu

theorem detReset (p : Pattern) : Statement (.detReset p) :=
  of_byte _ 0x8 0x8 4 rfl rfl rfl (by decide)
theorem detHold (p : Pattern) : Statement (.detHold p) :=
  of_byte _ 0x0 0xC 4 rfl rfl rfl (by decide)
theorem detMismatch (p : Pattern) : Statement (.detMismatch p) :=
  of_byte _ 0x6 0xE 4 rfl rfl rfl (by decide)
theorem detMatch (p : Pattern) : Statement (.detMatch p) :=
  of_byte _ 0x4 0xF 4 rfl rfl rfl (by decide)
theorem detMatchSat (p : Pattern) : Statement (.detMatchSat p) :=
  of_byte _ 0x5 0xF 4 rfl rfl rfl (by decide)
theorem detlReset (p : Pattern) : Statement (.detlReset p) :=
  of_byte _ 0x2 0x2 2 rfl rfl rfl (by decide)
theorem detlLatch (p : Pattern) : Statement (.detlLatch p) :=
  of_byte _ 0x1 0x3 2 rfl rfl rfl (by decide)
theorem detlKeep (p : Pattern) : Statement (.detlKeep p) :=
  of_byte _ 0x0 0x3 2 rfl rfl rfl (by decide)
theorem emtReset : Statement .emtReset :=
  of_byte _ 0x8 0x8 4 rfl rfl rfl (by decide)
theorem emtIdle : Statement .emtIdle :=
  of_byte _ 0x4 0xE 4 rfl rfl rfl (by decide)
theorem emtStart : Statement .emtStart :=
  of_byte _ 0x7 0xF 4 rfl rfl rfl (by decide)
theorem emtRun : Statement .emtRun :=
  of_byte _ 0x1 0xD 4 rfl rfl rfl (by decide)
theorem emtStallStart : Statement .emtStallStart :=
  of_byte _ 0x6 0xF 4 rfl rfl rfl (by decide)
theorem emtStallRun : Statement .emtStallRun :=
  of_byte _ 0x0 0xD 4 rfl rfl rfl (by decide)
theorem oscReset (o : OscId) : Statement (.oscReset o) :=
  of_byte _ 0x10 0x10 5 rfl rfl rfl (by decide)
theorem oscIdle (o : OscId) : Statement (.oscIdle o) :=
  of_byte _ 0x0 0x1A 5 rfl rfl rfl (by decide)
theorem oscStart (o : OscId) : Statement (.oscStart o) :=
  of_byte _ 0x2 0x1B 5 rfl rfl rfl (by decide)
theorem oscStartZero (o : OscId) : Statement (.oscStartZero o) :=
  of_byte _ 0x3 0x1B 5 rfl rfl rfl (by decide)
theorem oscRun (o : OscId) : Statement (.oscRun o) :=
  of_byte _ 0x8 0x1C 5 rfl rfl rfl (by decide)
theorem oscLast (o : OscId) : Statement (.oscLast o) :=
  of_byte _ 0xC 0x1C 5 rfl rfl rfl (by decide)
theorem waveReset (o : OscId) : Statement (.waveReset o) :=
  of_byte _ 0x2 0x2 2 rfl rfl rfl (by decide)
theorem waveCount (o : OscId) : Statement (.waveCount o) :=
  of_byte _ 0x0 0x3 2 rfl rfl rfl (by decide)
theorem waveToggle (o : OscId) : Statement (.waveToggle o) :=
  of_byte _ 0x1 0x3 2 rfl rfl rfl (by decide)
theorem seqReset : Statement .seqReset :=
  of_byte _ 0x8 0x8 4 rfl rfl rfl (by decide)
theorem seqWait : Statement .seqWait :=
  of_byte _ 0x4 0xE 4 rfl rfl rfl (by decide)
theorem seqFire : Statement .seqFire :=
  of_byte _ 0x6 0xE 4 rfl rfl rfl (by decide)
theorem seqCount : Statement .seqCount :=
  of_byte _ 0x0 0xD 4 rfl rfl rfl (by decide)
theorem seqWrap : Statement .seqWrap :=
  of_byte _ 0x1 0xD 4 rfl rfl rfl (by decide)
theorem patRead (r : Reader) : Statement (.patRead r) := of_empty _ rfl rfl
theorem patCtrl (r : Reader) : Statement (.patCtrl r) := of_empty _ rfl rfl
theorem patMask (r : Reader) : Statement (.patMask r) := of_empty _ rfl rfl

end Sys2Proof.Laws.Encoding
end

