-- ==== Sys2Proof/Laws/Select.lean ====
section
/-! SUPPORT. What each group's decoder answers on a vector given bit by bit (R81 to R86), and so which
operation each group selects in a tick. -/

namespace Sys2Proof.Machine

/-- The operation of group DET on the bits `{rst, valid, error, sat}` (R81). -/
def detOp (p : Pattern) (rst valid error sat : Bool) : Instr :=
  if rst then .detReset p
  else if !valid then .detHold p
  else if error then .detMismatch p
  else if sat then .detMatchSat p
  else .detMatch p

/-- The operation of group DETL on the bits `{rst, latch_en}` (R82). -/
def detlOp (p : Pattern) (rst latchEn : Bool) : Instr :=
  if rst then .detlReset p else if latchEn then .detlLatch p else .detlKeep p

/-- The operation of group EMT on the bits `{rst, done, send, ready}` (R83). -/
def emtOp (rst done send ready : Bool) : Instr :=
  if rst then .emtReset
  else if done then (if send then (if ready then .emtStart else .emtStallStart) else .emtIdle)
  else if ready then .emtRun else .emtStallRun

/-- The operation of group OSC on the bits `{rst, busy, last, start, lenz}` (R84). -/
def oscOp (o : OscId) (rst busy last start lenz : Bool) : Instr :=
  if rst then .oscReset o
  else if busy then (if last then .oscLast o else .oscRun o)
  else if start then (if lenz then .oscStartZero o else .oscStart o)
  else .oscIdle o

/-- The operation of group WAVE on the bits `{rst, wrap}` (R85). -/
def waveOp (o : OscId) (rst wrap : Bool) : Instr :=
  if rst then .waveReset o else if wrap then .waveToggle o else .waveCount o

/-- The operation of group SEQ on the bits `{rst, zero, polling, wrap}` (R86). -/
def seqOp (rst zero polling wrap : Bool) : Instr :=
  if rst then .seqReset
  else if zero then (if polling then .seqFire else .seqWait)
  else if wrap then .seqWrap else .seqCount

theorem decode_detVector (p : Pattern) (a b c d : Bool) :
    decode (.det p) [vectorByte [a, b, c, d]] = .ok (detOp p a b c d) := by
  cases a <;> cases b <;> cases c <;> cases d <;> rfl

theorem decode_detlVector (p : Pattern) (h : p.hasCfg = true) (a b : Bool) :
    decode (.detl p) [vectorByte [a, b]] = .ok (detlOp p a b) := by
  simp only [decode, h, if_true]
  cases a <;> cases b <;> rfl

theorem decode_emtVector (a b c d : Bool) :
    decode .emt [vectorByte [a, b, c, d]] = .ok (emtOp a b c d) := by
  cases a <;> cases b <;> cases c <;> cases d <;> rfl

theorem decode_oscVector (o : OscId) (a b c d e : Bool) :
    decode (.osc o) [vectorByte [a, b, c, d, e]] = .ok (oscOp o a b c d e) := by
  cases a <;> cases b <;> cases c <;> cases d <;> cases e <;> rfl

theorem decode_waveVector (o : OscId) (a b : Bool) :
    decode (.wave o) [vectorByte [a, b]] = .ok (waveOp o a b) := by
  cases a <;> cases b <;> rfl

theorem decode_seqVector (a b c d : Bool) :
    decode .seq [vectorByte [a, b, c, d]] = .ok (seqOp a b c d) := by
  cases a <;> cases b <;> cases c <;> cases d <;> rfl

/-! ## The bits of the settled state -/

@[simp] theorem detected_settled (s : State) (p : Pattern) : s.settled.detected p = s.detected p := by
  simp [State.detected]

@[simp] theorem emtDone_settled (s : State) : s.settled.emtDone = s.emtDone := rfl

@[simp] theorem latchEn_settled (s : State) (p : Pattern) (e : Bool) :
    s.settled.latchEn p e = s.latchEn p e := by simp [State.latchEn]

@[simp] theorem fire_settled (s : State) : s.settled.fire = s.fire := rfl

@[simp] theorem oscRst_settled (s : State) (o : OscId) : s.settled.oscRst o = s.oscRst o := by
  cases o <;> rfl

@[simp] theorem oscStart_settled (s : State) (o : OscId) : s.settled.oscStart o = s.oscStart o := by
  cases o <;> rfl

@[simp] theorem oscLength_settled (s : State) (o : OscId) : s.settled.oscLength o = s.oscLength o := by
  cases o <;> rfl

theorem fetch_det (s : State) (p : Pattern) : fetch s.settled (.det p) =
    [vectorByte [s.inputs.rst, s.inputs.sinkValid, s.errorWire p, s.detected p]] := by
  simp [fetch, State.detVector, State.errorWire]

theorem fetch_detl (s : State) (p : Pattern) : fetch s.settled (.detl p) =
    [vectorByte [s.inputs.rst, s.latchEn p (s.errorWire p)]] := by
  simp [fetch, State.detlVector, State.errorWire]

theorem fetch_emt (s : State) : fetch s.settled .emt =
    [vectorByte [s.inputs.rst, s.emtDone, s.inputs.send, s.inputs.sourceReady]] := rfl

theorem fetch_osc (s : State) (o : OscId) : fetch s.settled (.osc o) =
    [vectorByte [s.oscRst o, (s.osc o).busy, (s.osc o).remaining == 1, s.oscStart o,
      s.oscLength o == 0]] := by
  simp [fetch, State.oscVector]

theorem fetch_wave (s : State) (o : OscId) : fetch s.settled (.wave o) =
    [vectorByte [s.oscRst o, (s.osc o).halfCnt == s.config.half - 1]] := by
  simp [fetch, State.waveVector]

theorem fetch_seq (s : State) : fetch s.settled .seq =
    [vectorByte [s.inputs.rst, s.repCnt == 0, s.inputs.polling,
      s.repCnt == s.config.burstPeriod - 1]] := rfl

/-! ## Which operation a group selects -/

theorem selected_det (s : State) (p : Pattern) : s.selected (.det p) =
    .ok (detOp p s.inputs.rst s.inputs.sinkValid (s.errorWire p) (s.detected p)) := by
  rw [State.selected, fetch_det, decode_detVector]

theorem selected_detl (s : State) (p : Pattern) (h : p.hasCfg = true) : s.selected (.detl p) =
    .ok (detlOp p s.inputs.rst (s.latchEn p (s.errorWire p))) := by
  rw [State.selected, fetch_detl, decode_detlVector p h]

theorem selected_emt (s : State) : s.selected .emt =
    .ok (emtOp s.inputs.rst s.emtDone s.inputs.send s.inputs.sourceReady) := by
  rw [State.selected, fetch_emt, decode_emtVector]

theorem selected_osc (s : State) (o : OscId) : s.selected (.osc o) =
    .ok (oscOp o (s.oscRst o) (s.osc o).busy ((s.osc o).remaining == 1) (s.oscStart o)
      (s.oscLength o == 0)) := by
  rw [State.selected, fetch_osc, decode_oscVector]

theorem selected_wave (s : State) (o : OscId) : s.selected (.wave o) =
    .ok (waveOp o (s.oscRst o) ((s.osc o).halfCnt == s.config.half - 1)) := by
  rw [State.selected, fetch_wave, decode_waveVector]

theorem selected_seq (s : State) : s.selected .seq =
    .ok (seqOp s.inputs.rst (s.repCnt == 0) s.inputs.polling
      (s.repCnt == s.config.burstPeriod - 1)) := by
  rw [State.selected, fetch_seq, decode_seqVector]

end Sys2Proof.Machine
end

