-- ==== Sys2Proof/Laws/Step.lean ====
section
/-! SUPPORT. What one step can do, said once: which states it stops on, and its next state in closed
form (`step_eq`). Later proofs cite these and do not unfold the tick. -/

namespace Sys2Proof.Machine

/-! ## The ranges (R88), in the form proofs use -/

theorem inRange_iff (s : State) : s.inRange = true ↔
    (∀ p, (s.det p).adr < s.config.depth p ∧ (s.det p).count < s.config.mDet p) ∧
    (s.emt.adr < s.config.emitDepth ∧ s.emt.count < s.config.mEmit) ∧
    (∀ o, (s.osc o).halfCnt < s.config.half ∧
      ((s.osc o).busy = true → (s.osc o).remaining ≠ 0)) ∧
    s.repCnt < s.config.burstPeriod := by
  have hosc : ∀ o, s.oscInRange o = true ↔ ((s.osc o).halfCnt < s.config.half ∧
      ((s.osc o).busy = true → (s.osc o).remaining ≠ 0)) := by
    intro o
    simp only [State.oscInRange, Bool.and_eq_true, decide_eq_true_eq, Bool.not_eq_true',
      Bool.and_eq_false_imp, beq_eq_false_iff_ne]
  constructor
  · intro h
    simp only [State.inRange, State.detInRange, State.emtInRange, Bool.and_eq_true,
      decide_eq_true_eq, hosc] at h
    obtain ⟨⟨⟨⟨⟨⟨hf, ha⟩, hb⟩, he⟩, hs⟩, hu⟩, hr⟩ := h
    refine ⟨?_, he, ?_, hr⟩
    · intro p; cases p <;> assumption
    · intro o; cases o <;> assumption
  · rintro ⟨hd, he, ho, hr⟩
    simp only [State.inRange, State.detInRange, State.emtInRange, Bool.and_eq_true,
      decide_eq_true_eq, hosc]
    exact ⟨⟨⟨⟨⟨⟨hd .framing, hd .trainA⟩, hd .trainB⟩, he⟩, ho .sequencer⟩, ho .bare⟩, hr⟩

/-! ## The pattern functions settle the wires -/

theorem perform_patSlots (s : State) (h : s.inRange = true) :
    perform patSlots s = .next s.settled := by
  obtain ⟨hd, he, -, -⟩ := (inRange_iff s).mp h
  have hf := (hd .framing).1
  have ha := (hd .trainA).1
  have hb := (hd .trainB).1
  have hdec : decodeAll s patSlots = .ok
      [ .patRead (.detector .framing), .patCtrl (.detector .framing), .patMask (.detector .framing),
        .patRead (.detector .trainA), .patCtrl (.detector .trainA), .patMask (.detector .trainA),
        .patRead (.detector .trainB), .patCtrl (.detector .trainB), .patMask (.detector .trainB),
        .patRead .emitter, .patCtrl .emitter, .patMask .emitter ] := rfl
  simp only [State.det, Config.emitDepth] at hf ha hb he
  simp only [perform, hdec, execAll, exec, execPatRead, execPatCtrl, execPatMask, andThen, inTable,
    State.readerPattern, State.readerAdr, State.setWires, State.wires, State.det, hf, ha, hb,
    he.1, decide_true, if_true]
  rfl

/-! ## Each group's operation, performed on a state that agrees with the fetched one -/

theorem exec_detOp (s t : State) (p : Pattern) (hc : t.config = s.config) (hd : t.det p = s.det p) :
    exec (detOp p s.inputs.rst s.inputs.sinkValid (s.errorWire p) (s.detected p)) t =
      .next (t.setDet p (detectorNext s p)) := by
  have hsat : s.detected p = decide ((s.det p).count = s.config.mDet p - 1) := by
    simp [State.detected, beq_eq_decide]
  have hself : t.setDet p (t.det p) = t := by cases p <;> rfl
  unfold detOp detectorNext
  cases s.inputs.rst <;> cases s.inputs.sinkValid <;> cases s.errorWire p <;>
    by_cases hm : (s.det p).count = s.config.mDet p - 1 <;>
    simp [exec, execDetReset, execDetHold, execDetMismatch, execDetMatch, execDetMatchSat,
      recoverMismatch, wrapIncr, Detector.reset, hsat, hm, hc, hd] <;>
    rw [← hd, hself]

theorem exec_detlOp (s t : State) (p : Pattern) (l : LinkConfig) (h : p.hasCfg = true)
    (hi : t.inputs = s.inputs) (hl : t.latches p = some l) :
    exec (detlOp p s.inputs.rst (s.latchEn p (s.errorWire p))) t =
      .next (t.setLatches p (latchesNext s p l)) := by
  have hself : t.setLatches p l = t := by
    cases p
    · rfl
    · obtain rfl : t.cfgTrainA = l := by simpa [State.latches] using hl
      rfl
    · obtain rfl : t.cfgTrainB = l := by simpa [State.latches] using hl
      rfl
  unfold detlOp latchesNext State.latchEn
  cases s.inputs.rst <;> cases s.inputs.sinkValid <;> cases s.errorWire p <;>
    cases ((s.det p).adr == 1) <;>
    simp [exec, execDetlReset, execDetlLatch, execDetlKeep, writeLatches, receivedConfig,
      LinkConfig.cleared, h, hi, hself]

/-- The answer of the emitter's operation, from its next registers. -/
def emtAnswer (t : State) : Option Emitter → Answer
  | none => .refused .emitterStalled
  | some e => .next { t with emt := e }

theorem exec_emtOp (s t : State) (hc : t.config = s.config) (he : t.emt = s.emt) :
    exec (emtOp s.inputs.rst s.emtDone s.inputs.send s.inputs.sourceReady) t =
      emtAnswer t (emitterNext s) := by
  unfold emtOp emitterNext State.sourceValid
  cases s.inputs.rst <;> cases s.emtDone <;> cases s.inputs.send <;> cases s.inputs.sourceReady <;>
    cases hpol : s.config.stallPolicy <;>
    simp [exec, execEmtReset, execEmtIdle, execEmtStart, execEmtRun, execEmtStallStart,
      execEmtStallRun, stallEmitter, startedEmitter, State.emtCounted, State.emtNextAdr, wrapIncr,
      Emitter.reset, emtAnswer, hc, he, hpol] <;>
    rw [← hc, ← he]

theorem exec_seqOp (s t : State) (hr : t.repCnt = s.repCnt) :
    exec (seqOp s.inputs.rst (s.repCnt == 0) s.inputs.polling
      (s.repCnt == s.config.burstPeriod - 1)) t = .next { t with repCnt := repCntNext s } := by
  have hself : { t with repCnt := s.repCnt } = t := by rw [← hr]
  unfold seqOp repCntNext
  by_cases hz : s.repCnt = 0
  · have hself0 : { t with repCnt := 0 } = t := by rw [← hz]; exact hself
    cases s.inputs.rst <;> cases s.inputs.polling <;>
      simp [exec, execSeqReset, execSeqWait, execSeqFire, hz, hself0]
  · by_cases hw : s.repCnt = s.config.burstPeriod - 1 <;> cases s.inputs.rst <;>
      simp_all [exec, execSeqReset, execSeqCount, execSeqWrap]

theorem oscLength_congr {s t : State} (o : OscId) (hc : t.config = s.config)
    (hi : t.inputs = s.inputs) : t.oscLength o = s.oscLength o := by
  cases o <;> simp [State.oscLength, hc, hi]

/-- The OSC operation and then the WAVE operation of one oscillator. -/
theorem exec_oscOp_waveOp (s t : State) (o : OscId) (k : State → Answer)
    (hc : t.config = s.config) (hi : t.inputs = s.inputs) (ho : t.osc o = s.osc o)
    (hrem : (s.osc o).busy = true → (s.osc o).remaining ≠ 0) :
    andThen (exec (oscOp o (s.oscRst o) (s.osc o).busy ((s.osc o).remaining == 1) (s.oscStart o)
        (s.oscLength o == 0)) t)
      (fun u => andThen (exec (waveOp o (s.oscRst o) ((s.osc o).halfCnt == s.config.half - 1)) u) k) =
      k (t.setOsc o (oscillatorNext s o)) := by
  have hlen := oscLength_congr o hc hi
  have hset : ∀ x y : Oscillator, (t.setOsc o x).setOsc o y = t.setOsc o y := by
    intro x y; cases o <;> rfl
  have hself : t.setOsc o (t.osc o) = t := by cases o <;> rfl
  unfold oscOp waveOp oscillatorNext
  by_cases hb : (s.osc o).busy = true
  · have hr0 := hrem hb
    simp only [BitVec.ofNat_eq_ofNat] at hr0
    by_cases hl : (s.osc o).remaining = 1#32 <;> by_cases hw : (s.osc o).halfCnt = s.config.half - 1 <;>
      cases s.oscRst o <;>
      simp [exec, execOscReset, execOscRun, execOscLast, execWaveReset, execWaveCount,
        execWaveToggle, andThen, hb, hl, hw, hr0, ho, hset, beq_eq_decide]
  · by_cases hz : s.oscLength o = 0#32 <;> by_cases hw : (s.osc o).halfCnt = s.config.half - 1 <;>
      cases s.oscRst o <;> cases s.oscStart o <;>
      simp [exec, execOscReset, execOscIdle, execOscStart, execOscStartZero, execWaveReset,
        execWaveCount, execWaveToggle, andThen, hb, hz, hw, ho, hset, hlen,
        beq_eq_decide]

/-! ## The whole tick -/

theorem hasCfg_trainA : Pattern.trainA.hasCfg = true := rfl
theorem hasCfg_trainB : Pattern.trainB.hasCfg = true := rfl

theorem decodeAll_groupSlots (s : State) : decodeAll s.settled groupSlots = .ok
    [ detOp .framing s.inputs.rst s.inputs.sinkValid (s.errorWire .framing) (s.detected .framing),
      detOp .trainA s.inputs.rst s.inputs.sinkValid (s.errorWire .trainA) (s.detected .trainA),
      detOp .trainB s.inputs.rst s.inputs.sinkValid (s.errorWire .trainB) (s.detected .trainB),
      detlOp .trainA s.inputs.rst (s.latchEn .trainA (s.errorWire .trainA)),
      detlOp .trainB s.inputs.rst (s.latchEn .trainB (s.errorWire .trainB)),
      emtOp s.inputs.rst s.emtDone s.inputs.send s.inputs.sourceReady,
      seqOp s.inputs.rst (s.repCnt == 0) s.inputs.polling (s.repCnt == s.config.burstPeriod - 1),
      oscOp .sequencer (s.oscRst .sequencer) (s.osc .sequencer).busy
        ((s.osc .sequencer).remaining == 1) (s.oscStart .sequencer) (s.oscLength .sequencer == 0),
      waveOp .sequencer (s.oscRst .sequencer) ((s.osc .sequencer).halfCnt == s.config.half - 1),
      oscOp .bare (s.oscRst .bare) (s.osc .bare).busy ((s.osc .bare).remaining == 1)
        (s.oscStart .bare) (s.oscLength .bare == 0),
      waveOp .bare (s.oscRst .bare) ((s.osc .bare).halfCnt == s.config.half - 1) ] := by
  simp only [groupSlots, decodeAll, fetch_det, fetch_detl, fetch_emt, fetch_osc, fetch_wave,
    fetch_seq, decode_detVector, decode_detlVector _ hasCfg_trainA, decode_detlVector _ hasCfg_trainB,
    decode_emtVector, decode_oscVector, decode_waveVector, decode_seqVector]

/-- The state before the boundary, given the emitter's next registers. -/
def clocked (s : State) (e : Emitter) : State :=
  { s.settled with
    detFraming := detectorNext s .framing
    detTrainA := detectorNext s .trainA
    detTrainB := detectorNext s .trainB
    cfgTrainA := latchesNext s .trainA s.cfgTrainA
    cfgTrainB := latchesNext s .trainB s.cfgTrainB
    emt := e
    repCnt := repCntNext s
    seqOsc := oscillatorNext s .sequencer
    bareOsc := oscillatorNext s .bare }

theorem perform_groupSlots (s : State) (h : s.inRange = true) :
    perform groupSlots s.settled =
      match emitterNext s with
      | none => .refused .emitterStalled
      | some e => .next (clocked s e) := by
  obtain ⟨-, -, ho, -⟩ := (inRange_iff s).mp h
  have hburst := exec_oscOp_waveOp s
  simp only [andThen] at hburst
  simp only [perform, decodeAll_groupSlots, execAll, andThen]
  rw [exec_detOp s (p := .framing)]
  · simp only []
    rw [exec_detOp s (p := .trainA)]
    · simp only []
      rw [exec_detOp s (p := .trainB)]
      · simp only []
        rw [exec_detlOp s (p := .trainA) (l := s.cfgTrainA)]
        · simp only []
          rw [exec_detlOp s (p := .trainB) (l := s.cfgTrainB)]
          · simp only []
            rw [exec_emtOp s]
            · cases emitterNext s with
              | none => rfl
              | some e =>
                simp only [emtAnswer]
                rw [exec_seqOp s]
                · simp only []
                  rw [hburst (o := .sequencer)]
                  · rw [hburst (o := .bare)]
                    · rfl
                    · rfl
                    · rfl
                    · rfl
                    · exact (ho .bare).2
                  · rfl
                  · rfl
                  · rfl
                  · exact (ho .sequencer).2
                · rfl
            · rfl
            · rfl
          all_goals rfl
        all_goals rfl
      all_goals rfl
    all_goals rfl
  all_goals rfl

/-- The step in closed form: on a machine that can be built and whose registers are in their ranges it
answers the next state of every component at once, or the refusal of a stalled emitter. -/
theorem step_eq (s : State) (hc : s.config.wellFormed = true) (h : s.inRange = true) :
    step s =
      match emitterNext s with
      | none => .refused .emitterStalled
      | some e => .next (nextState s e) := by
  simp only [step, tick, hc, h, if_true, perform_patSlots s h, andThen, perform_groupSlots s h]
  cases emitterNext s <;> rfl

theorem step_illFormed (s : State) (h : s.config.wellFormed = false) :
    step s = .refused .illFormedConfig := by simp [step, tick, h]

theorem step_stuck (s : State) (hc : s.config.wellFormed = true) (h : s.inRange = false) :
    step s = .fault .unreachableState := by simp [step, tick, hc, h]

/-- Everything a step that answers a next state tells. -/
theorem step_next_iff (s t : State) : step s = .next t ↔
    s.config.wellFormed = true ∧ s.inRange = true ∧
      ∃ e, emitterNext s = some e ∧ t = nextState s e := by
  constructor
  · intro h
    cases hc : s.config.wellFormed with
    | false => rw [step_illFormed s hc] at h; cases h
    | true =>
      cases hr : s.inRange with
      | false => rw [step_stuck s hc hr] at h; cases h
      | true =>
        rw [step_eq s hc hr] at h
        cases he : emitterNext s with
        | none => rw [he] at h; cases h
        | some e =>
          rw [he] at h
          injection h with h
          exact ⟨rfl, rfl, e, rfl, h.symm⟩
  · rintro ⟨hc, hr, e, he, rfl⟩
    rw [step_eq s hc hr, he]

/-- The emitter's next registers are missing exactly where the policy refuses a stalled symbol. -/
theorem emitterNext_eq_none (s : State) :
    emitterNext s = none ↔ s.stalled = true ∧ s.config.stallPolicy = .refuse := by
  unfold emitterNext State.stalled
  cases s.inputs.rst <;> cases s.sourceValid <;> cases s.inputs.sourceReady <;>
    cases s.inputs.send <;> cases s.emtDone <;> cases s.config.stallPolicy <;> simp

end Sys2Proof.Machine
end

