-- ==== Sys2Proof/Tests/Slice0.lean ====
section
/-! SUPPORT. Tests, each a named theorem: the well-formedness checks, the decoding of vectors written
out from the spec, single ticks whose expected values stand in 95_test_vectors.md (the vector is
named in each test), and for each statement with hypotheses concrete data that meet them. -/

namespace Sys2Proof.Tests

open Sys2Proof.Machine

/-! ## Helpers -/

/-- Whether the step answers a next state. -/
def isNext (s : State) : Bool :=
  match step s with
  | .next _ => true
  | .fault _ => false
  | .refused _ => false

/-- The next state; the same state where there is none. -/
def after (s : State) : State :=
  match step s with
  | .next t => t
  | .fault _ => s
  | .refused _ => s

theorem step_after {s : State} (h : isNext s = true) : step s = .next (after s) := by
  unfold isNext at h
  unfold after
  cases hs : step s <;> simp_all

/-- The states of the run from `s`. -/
def states (s : State) : Nat → State
  | 0 => s
  | n + 1 => after (states s n)

theorem run_states {n : Nat} {s : State} (h : ∀ k, k < n → isNext (states s k) = true) :
    Run n (states s) := fun k hk => step_after (h k hk)

/-- The invariant in a form that is decided on concrete states. -/
abbrev InvCheck (s : State) : Prop :=
  s.config.wellFormed = true ∧ s.inRange = true ∧
  (∀ p ∈ [Pattern.framing, .trainA, .trainB], (s.det p).count < s.config.mDet p - 1 →
    (s.det p).adr = (s.det p).count % s.config.depth p) ∧
  (s.config.stallPolicy ≠ .restart →
    s.emt.adr = (s.emt.count + 1) % s.config.emitDepth ∧ (s.emtDone = false → s.emt.run = true)) ∧
  (∀ o ∈ [OscId.sequencer, .bare], ((s.osc o).busy = false → (s.osc o).remaining = 0) ∧
    ((s.osc o).doneQ = true → (s.osc o).busy = false)) ∧
  (s.seqOsc.busy = true →
    s.repCnt ≠ 0 ∧ s.repCnt + s.seqOsc.remaining.toNat = s.config.burstLength + 1)

theorem inv_of_check {s : State} (h : InvCheck s) : Inv s :=
  ⟨h.1, h.2.1, fun p => h.2.2.1 p (by cases p <;> simp), h.2.2.2.1,
    fun o => (h.2.2.2.2.1 o (by cases o <;> simp)).1,
    fun o => (h.2.2.2.2.1 o (by cases o <;> simp)).2, h.2.2.2.2.2⟩

/-- The latched flags `(cfg_reset, cfg_loopback, cfg_scrambling)`. -/
def flags (a b c : Bool) : LinkConfig := { reset := a, loopback := b, scrambling := c }

/-- The detector of TRAIN_A (table `T4`, `N = 2`) in the given state, with a symbol on the stream. -/
def onDet (adr count : Nat) (l : LinkConfig) (data : Data) (ctrl : Ctrl) : State :=
  { State.reset with
    detTrainA := { adr := adr, count := count }
    cfgTrainA := l
    inputs := traceSym data ctrl }

/-- The emitter (table `T4`, `N = 2`) in the given state, with the given lines. -/
def onEmt (policy : StallPolicy) (adr count : Nat) (run : Bool) (inp : Inputs) : State :=
  { State.resetWith { Config.atReset with stallPolicy := policy } with
    emt := { adr := adr, count := count, run := run }
    inputs := inp }

/-- Lines of the emitter: `send`, `source_ready`, and the config inputs. -/
def emtLines (send ready resetI loopbackI scramblingI : Bool) : Inputs :=
  { Inputs.quiet with send, sourceReady := ready, resetI, loopbackI, scramblingI }

/-- An oscillator state as 95_test_vectors.md writes it. -/
def oscState (halfCnt : Nat) (level busy : Bool) (remaining : BurstTicks) (doneQ : Bool) : Oscillator :=
  { halfCnt, level, busy, remaining, doneQ }

/-- The oscillator that stands alone, with `HALF = 2`. -/
def onOsc (x : Oscillator) (rst start : Bool) (length : BurstTicks) : State :=
  { State.reset with
    bareOsc := x
    inputs := { Inputs.quiet with oscRst := rst, oscStart := start, oscLength := length } }

/-- The sequencer with `HALF = 1`, `L = 3`, `P = 5`. -/
def onSeq (rep : Nat) (x : Oscillator) (rst polling : Bool) : State :=
  { State.resetWith { Config.atReset with half := 1, burstLength := 3 } with
    repCnt := rep
    seqOsc := x
    inputs := { Inputs.quiet with rst, polling } }

/-! ## Well-formedness (R6, R7, R82) -/

theorem test_wf_detl_needs_config :
    Instr.wellFormed (.detlReset .framing) = false ∧ Instr.wellFormed (.detlLatch .framing) = false ∧
    Instr.wellFormed (.detlKeep .framing) = false := by decide

theorem test_wf_atReset : Config.atReset.wellFormed = true := by decide

theorem test_wf_depth :
    Config.wellFormed { Config.atReset with framing := { words := [], firstCtrl := 1 } } = false := by
  decide

theorem test_wf_depth_hasCfg :
    Config.wellFormed { Config.atReset with trainB := { words := [0], firstCtrl := 1 } } = false := by
  decide

theorem test_wf_firstCtrl :
    Config.wellFormed
      { Config.atReset with trainA := { Config.atReset.trainA with firstCtrl := 0 } } = false := by
  decide

theorem test_wf_counts :
    Config.wellFormed { Config.atReset with nDetFraming := 0 } = false ∧
    Config.wellFormed { Config.atReset with nDetTrainA := 0 } = false ∧
    Config.wellFormed { Config.atReset with nDetTrainB := 0 } = false ∧
    Config.wellFormed { Config.atReset with nEmit := 0 } = false := by decide

theorem test_wf_repetition_length :
    Config.wellFormed { Config.atReset with
      framing := { words := [0], firstCtrl := 1 }, nDetFraming := 1 } = false ∧
    Config.wellFormed { Config.atReset with
      framing := { words := [0], firstCtrl := 1 }, emitPattern := .framing, nEmit := 1 } = false := by
  decide

theorem test_wf_half : Config.wellFormed { Config.atReset with half := 0 } = false := by decide

theorem test_wf_burst_length :
    Config.wellFormed { Config.atReset with burstLength := 0 } = false ∧
    Config.wellFormed
      { Config.atReset with burstLength := 2 ^ 32, burstPeriod := 2 ^ 32 + 1 } = false := by decide

theorem test_wf_burst_period : Config.wellFormed { Config.atReset with burstPeriod := 4 } = false := by
  decide

/-! ## Decoding: the vectors of R81 to R87, written out, a don't-care bit at 1 -/

theorem test_decode_det :
    decode (.det .trainA) [0b1111] = .ok (.detReset .trainA) ∧
    decode (.det .trainA) [0b0011] = .ok (.detHold .trainA) ∧
    decode (.det .framing) [0b0111] = .ok (.detMismatch .framing) ∧
    decode (.det .trainB) [0b0100] = .ok (.detMatch .trainB) ∧
    decode (.det .trainB) [0b0101] = .ok (.detMatchSat .trainB) := ⟨rfl, rfl, rfl, rfl, rfl⟩

theorem test_decode_detl :
    decode (.detl .trainA) [0b11] = .ok (.detlReset .trainA) ∧
    decode (.detl .trainA) [0b01] = .ok (.detlLatch .trainA) ∧
    decode (.detl .trainB) [0b00] = .ok (.detlKeep .trainB) := ⟨rfl, rfl, rfl⟩

theorem test_decode_emt :
    decode .emt [0b1111] = .ok .emtReset ∧ decode .emt [0b0101] = .ok .emtIdle ∧
    decode .emt [0b0111] = .ok .emtStart ∧ decode .emt [0b0011] = .ok .emtRun ∧
    decode .emt [0b0110] = .ok .emtStallStart ∧ decode .emt [0b0010] = .ok .emtStallRun :=
  ⟨rfl, rfl, rfl, rfl, rfl, rfl⟩

theorem test_decode_osc :
    decode (.osc .bare) [0b11111] = .ok (.oscReset .bare) ∧
    decode (.osc .bare) [0b00101] = .ok (.oscIdle .bare) ∧
    decode (.osc .bare) [0b00110] = .ok (.oscStart .bare) ∧
    decode (.osc .bare) [0b00111] = .ok (.oscStartZero .bare) ∧
    decode (.osc .sequencer) [0b01011] = .ok (.oscRun .sequencer) ∧
    decode (.osc .sequencer) [0b01111] = .ok (.oscLast .sequencer) :=
  ⟨rfl, rfl, rfl, rfl, rfl, rfl⟩

theorem test_decode_wave :
    decode (.wave .bare) [0b11] = .ok (.waveReset .bare) ∧
    decode (.wave .bare) [0b00] = .ok (.waveCount .bare) ∧
    decode (.wave .sequencer) [0b01] = .ok (.waveToggle .sequencer) := ⟨rfl, rfl, rfl⟩

theorem test_decode_seq :
    decode .seq [0b1111] = .ok .seqReset ∧ decode .seq [0b0101] = .ok .seqWait ∧
    decode .seq [0b0111] = .ok .seqFire ∧ decode .seq [0b0010] = .ok .seqCount ∧
    decode .seq [0b0011] = .ok .seqWrap := ⟨rfl, rfl, rfl, rfl, rfl⟩

theorem test_decode_pat :
    decode (.patRead .emitter) [] = .ok (.patRead .emitter) ∧
    decode (.patCtrl (.detector .trainA)) [] = .ok (.patCtrl (.detector .trainA)) ∧
    decode (.patMask .emitter) [] = .ok (.patMask .emitter) := ⟨rfl, rfl, rfl⟩

theorem test_decode_rejects :
    decode (.detl .framing) [0b00] = .error .groupAbsent ∧
    decode (.wave .bare) [0b100] = .error .vectorTooWide ∧
    decode (.osc .bare) [] = .error .noVector ∧
    decode (.patRead .emitter) [0] = .error .extraBytes := ⟨rfl, rfl, rfl, rfl⟩

theorem test_table_words :
    decodeTableWord 4 0x5 = some (.detMatchSat .trainA) ∧
    decodeTableWord 8 0x7 = some .emtStart ∧
    decodeTableWord 5 0xC = some (.oscLast .bare) ∧
    decodeTableWord 2 0x1 = some (.detlLatch .trainA) ∧
    decodeTableWord 0 0x0 = some (.patRead (.detector .trainA)) := ⟨rfl, rfl, rfl, rfl, rfl⟩

/-- A word placed where the next step fetches it is the operation that step selects. -/
theorem test_withFetchWord :
    (State.reset.withFetchWord 4 0x5).selected (.det .trainA) = .ok (.detMatchSat .trainA) ∧
    isNext (State.reset.withFetchWord 4 0x5) = true ∧
    (State.reset.withFetchWord 8 0x7).selected .emt = .ok .emtStart ∧
    isNext (State.reset.withFetchWord 8 0x7) = true := ⟨rfl, rfl, rfl, rfl⟩

/-! ## Pattern table (95_test_vectors.md section 3) -/

theorem test_VT2_patRead : (after (onDet 1 1 (flags false false false) 0x4A4A0D00 0)).wiresTrainA.word
    = 0x4A4A0000 := by decide

theorem test_VT5_patCtrl :
    (after (onDet 0 0 (flags false false false) 0xBCBCBCBC 0xF)).wiresTrainA.ctrl = 0xF ∧
    (after (onDet 3 3 (flags false false false) 0x4A4A4A4A 0)).wiresTrainA.ctrl = 0x0 := by decide

theorem test_VT7_VT8_patMask :
    (after (onDet 1 1 (flags false false false) 0x4A4A0D00 0)).wiresTrainA.mask = 0xFFFF00FF ∧
    (after (onDet 2 2 (flags false false false) 0x4A4A4A4A 0)).wiresTrainA.mask = 0xFFFFFFFF ∧
    (after { State.reset with detFraming := { adr := 1, count := 1 } }).wiresFraming.mask
      = 0xFFFFFFFF := by decide

/-! ## Detector (section 4) -/

/-- The registers of the TRAIN_A detector after the tick. -/
def detAfter (s : State) : Bool × Detector × LinkConfig :=
  (isNext s, (after s).detTrainA, (after s).cfgTrainA)

theorem test_VD2_match_latch :
    detAfter (onDet 1 1 (flags false false false) 0x4A4A0D00 0)
      = (true, { adr := 2, count := 2 }, flags true true false) := by decide

theorem test_VD3_latch_ignores_reserved :
    detAfter (onDet 1 1 (flags false false false) 0x4A4A1200 0)
      = (true, { adr := 2, count := 2 }, flags false false true) := by decide

theorem test_VD6_mismatch_takes_no_latch :
    detAfter (onDet 1 1 (flags false false false) 0x4A4A0900 1)
      = (true, { adr := 0, count := 0 }, flags false false false) := by decide

theorem test_VD7_mismatch_keeps_flags :
    detAfter (onDet 1 1 (flags true true false) 0x4B4A0000 0)
      = (true, { adr := 0, count := 0 }, flags true true false) := by decide

theorem test_VD12_hold :
    detAfter { onDet 2 2 (flags false false true) 0xDEADBEEF 5 with
      inputs := { traceSym 0xDEADBEEF 5 with sinkValid := false } }
      = (true, { adr := 2, count := 2 }, flags false false true) := by decide

theorem test_VD13_matchSat :
    detAfter (onDet 3 7 (flags false true true) 0x4A4A4A4A 0)
      = (true, { adr := 0, count := 7 }, flags false true true) := by decide

theorem test_VD15_matchSat_latch :
    detAfter (onDet 1 7 (flags false false true) 0x4A4A0D00 0)
      = (true, { adr := 2, count := 7 }, flags true true false) := by decide

theorem test_VD17_reset :
    detAfter { onDet 2 5 (flags true false true) 0x4A4A4A4A 0 with
      inputs := { traceSym 0x4A4A4A4A 0 with rst := true } }
      = (true, { adr := 0, count := 0 }, flags false false false) := by decide

theorem test_VD20_match_wraps :
    detAfter (onDet 3 3 (flags false false true) 0x4A4A4A4A 0)
      = (true, { adr := 0, count := 4 }, flags false false true) := by decide

/-! ## Emitter (section 5) -/

/-- What the emitter offers in the tick, and its registers after it. -/
def emtAfter (s : State) : Bool × Data × Ctrl × Bool × Emitter :=
  (s.sourceValid, s.sourceData, s.sourceCtrl, isNext s, (after s).emt)

theorem test_VE2_start : emtAfter (onEmt .refuse 0 7 false (emtLines true true false false true))
    = (true, 0xBCBCBCBC, 0xF, true, { adr := 1, count := 0, run := true }) := by decide

theorem test_VE4_run_last : emtAfter (onEmt .refuse 3 6 true (emtLines false true false false true))
    = (true, 0x4A4A4A4A, 0, true, { adr := 0, count := 7, run := true }) := by decide

theorem test_VE9_run_config : emtAfter (onEmt .refuse 1 0 true (emtLines false true true true false))
    = (true, 0x4A4A0D00, 0, true, { adr := 2, count := 1, run := true }) := by decide

theorem test_VE10_idle : emtAfter (onEmt .refuse 0 7 true (emtLines false true false false true))
    = (false, 0xBCBCBCBC, 0xF, true, { adr := 0, count := 7, run := false }) := by decide

theorem test_VE13_stallRun :
    step (onEmt .refuse 2 1 true (emtLines false false false false true))
      = .refused .emitterStalled ∧
    (after (onEmt .hold 2 1 true (emtLines false false false false true))).emt
      = { adr := 2, count := 1, run := true } ∧
    (after (onEmt .restart 2 1 true (emtLines false false false false true))).emt
      = { adr := 0, count := 2, run := true } := ⟨rfl, by decide, by decide⟩

theorem test_VE14_stallStart :
    step (onEmt .refuse 0 7 false (emtLines true false false false true))
      = .refused .emitterStalled ∧
    (after (onEmt .hold 0 7 false (emtLines true false false false true))).emt
      = { adr := 0, count := 7, run := false } ∧
    (after (onEmt .restart 0 7 false (emtLines true false false false true))).emt
      = { adr := 0, count := 0, run := true } := ⟨rfl, by decide, by decide⟩

theorem test_VE15_reset :
    emtAfter (onEmt .refuse 2 1 true { emtLines false true false false true with rst := true })
      = (true, 0x4A4A4A4A, 0, true, { adr := 0, count := 7, run := false }) := by decide

/-! ## Oscillator and wave (section 6) -/

/-- The outputs of the tick, and the registers of the oscillator after it. -/
def oscAfter (s : State) : BurstOutputs × Bool × Oscillator :=
  (s.burstOutputs .bare, isNext s, (after s).bareOsc)

/-- The outputs `(tx_idle, tx_pattern, done)`. -/
def outs (a b c : Bool) : BurstOutputs := { txIdle := a, txPattern := b, done := c }

theorem test_VW1_idle_count : oscAfter (onOsc (oscState 0 true false 0 false) false false 0)
    = (outs true false false, true, oscState 1 true false 0 false) := by decide

theorem test_VO3_start_toggle : oscAfter (onOsc (oscState 1 true false 0 false) false true 5)
    = (outs true false false, true, oscState 0 false true 5 false) := by decide

theorem test_VO4_run_toggle : oscAfter (onOsc (oscState 1 false true 4 false) false true 9)
    = (outs false false false, true, oscState 0 true true 3 false) := by decide

theorem test_VO5_last_count : oscAfter (onOsc (oscState 0 false true 1 false) false false 0)
    = (outs false false false, true, oscState 1 false false 0 true) := by decide

theorem test_VO6_idle_ends_done : oscAfter (onOsc (oscState 1 false false 0 true) false false 0)
    = (outs true false true, true, oscState 0 true false 0 false) := by decide

theorem test_VO8_startZero : oscAfter (onOsc (oscState 1 false false 0 false) false true 0)
    = (outs true false false, true, oscState 0 true false 0 true) := by decide

theorem test_VO9_reset : oscAfter (onOsc (oscState 1 true true 3 false) true true 4)
    = (outs false true false, true, oscState 0 false false 0 false) := by decide

theorem test_VO11_longest : oscAfter (onOsc (oscState 0 false false 0 false) false true 4294967295)
    = (outs true false false, true, oscState 1 false true 4294967295 false) := by decide

/-! ## Sequencer (section 7) -/

/-- The registers of the sequencer and its oscillator after the tick. -/
def seqAfter (s : State) : Bool × Nat × Oscillator := (isNext s, (after s).repCnt, (after s).seqOsc)

theorem test_VQ3_wait : seqAfter (onSeq 0 (oscState 0 false false 0 false) false false)
    = (true, 0, oscState 0 true false 0 false) := by decide

theorem test_VQ4_fire : seqAfter (onSeq 0 (oscState 0 false false 0 false) false true)
    = (true, 1, oscState 0 true true 3 false) := by decide

theorem test_VQ5_count : seqAfter (onSeq 2 (oscState 0 false true 2 false) false false)
    = (true, 3, oscState 0 true true 1 false) := by decide

theorem test_VQ6_wrap : seqAfter (onSeq 4 (oscState 0 false false 0 true) false true)
    = (true, 0, oscState 0 true false 0 false) := by decide

theorem test_VQ7_reset : seqAfter (onSeq 3 (oscState 0 true true 1 false) true false)
    = (true, 0, oscState 0 false false 0 false) := by decide

/-- Tick 2 of program P5: what the trace writes for TRAIN_A, and tick 4 of P3 for the sequencer. -/
theorem test_trace_operations :
    operationsText ((onDet 1 1 (flags false false false) 0x4A4A0100 0).operations (.det .trainA))
      = "DET.MATCH+DETL.LATCH" ∧
    operationsText ((onSeq 4 (oscState 0 false false 0 true) false true).operations .seq)
      = "SEQ.WRAP+OSC.IDLE+WAVE.TOGGLE" := by decide

/-! ## Witnesses: concrete data that meet the hypotheses of each statement -/

/-- Repeat counts 1 and `HALF = 1`, so that whole emissions and bursts are short. -/
def shortConfig : Config :=
  { Config.atReset with nDetTrainA := 1, nEmit := 1, half := 1, burstLength := 1, burstPeriod := 2 }

/-- The machine of `shortConfig`, with the lines of its first ticks given. -/
def driven (now : Inputs) (later : List Inputs) : State :=
  { State.resetWith shortConfig with inputs := now, pending := later }

/-- The stream of one looped emission of `T4` with quiet config inputs (config byte `0x08`), then one
tick without a symbol. -/
def loopedEmission : State :=
  driven { traceSym 0xBCBCBCBC 0xF with send := true }
    [ traceSym 0x4A4A0800 0, traceSym 0x4A4A4A4A 0, traceSym 0x4A4A4A4A 0,
      { traceSym 0xBCBCBCBC 0xF with sinkValid := false } ]

/-- Four ticks of polling, with bursts of one tick every two. -/
def polled : State :=
  driven { Inputs.quiet with polling := true } (tracePoll 3)

/-- A burst of two ticks on the oscillator that stands alone. -/
def bursting : State :=
  driven { Inputs.quiet with oscStart := true, oscLength := 2 } (traceIdle 3)

/-- A detector saturated in the middle of its pattern, its latches set, the emitter in an emission and
the sequencer in a burst. -/
def busyState : State :=
  { State.reset with
    detTrainA := { adr := 2, count := 7 }
    cfgTrainA := flags true false true
    emt := { adr := 2, count := 1, run := true }
    repCnt := 2
    seqOsc := oscState 1 true true 3 false
    inputs := { traceSym 0x4A4A4A4B 0 with send := true, polling := true }
    pending := traceIdle 1 }

theorem witness_SelectTablesTotalAndExclusive :
    Slot.emt ≠ .detl .framing ∧ Slot.emt.width ≠ 0 ∧ (0xF : Byte).toNat < 2 ^ Slot.emt.width := by
  decide

theorem witness_DecodeAndEncodeAgree :
    Instr.wellFormed (.detlLatch .trainA) = true ∧ decode .emt [0b0101] = .ok .emtIdle := ⟨rfl, rfl⟩

theorem witness_StepRunsSelectedOperations :
    busyState.config.wellFormed = true ∧ busyState.inRange = true := by decide

theorem witness_IllFormedConfigurationRefused :
    { State.reset with config := { Config.atReset with half := 0 } }.config.wellFormed = false ∧
    { State.reset with repCnt := 5 }.config.wellFormed = true ∧
    { State.reset with repCnt := 5 }.inRange = false := by decide

theorem witness_OnlyStalledEmitterStops :
    (Inv (onEmt .refuse 2 1 true (emtLines false false false false true)) ∧
      (onEmt .refuse 2 1 true (emtLines false false false false true)).stalled = true ∧
      (onEmt .refuse 2 1 true (emtLines false false false false true)).config.stallPolicy
        = .refuse) ∧
    Inv (onEmt .hold 2 1 true (emtLines false false false false true)) ∧
    ¬ ((onEmt .hold 2 1 true (emtLines false false false false true)).stalled = true ∧
      (onEmt .hold 2 1 true (emtLines false false false false true)).config.stallPolicy
        = .refuse) :=
  ⟨⟨inv_of_check (by decide), by decide, by decide⟩, inv_of_check (by decide), by decide⟩

theorem witness_StepKeepsInvariant : Inv busyState ∧ step busyState = .next (after busyState) :=
  ⟨inv_of_check (by decide), step_after (by decide)⟩

theorem witness_ResetStateHasInvariant : shortConfig.wellFormed = true := by decide

theorem witness_TablesAreNeverWritten :
    exec .emtRun busyState = .next { busyState with emt := { adr := 3, count := 2, run := true } } ∧
    step busyState = .next (after busyState) := ⟨rfl, step_after (by decide)⟩

theorem witness_ResetTickLeavesResetValues :
    let s : State := { busyState with inputs := { Inputs.quiet with rst := true, oscRst := true } }
    let s' : State := { busyState with
      bareOsc := oscState 1 true true 3 false
      inputs := { Inputs.quiet with oscRst := true } }
    (s.config.wellFormed = true ∧ s.inRange = true ∧ s.inputs.rst = true) ∧
      s'.config.wellFormed = true ∧ s'.inRange = true ∧ s'.inputs.oscRst = true ∧
      s'.inputs.rst = false ∧ ¬ (s'.stalled = true ∧ s'.config.stallPolicy = .refuse) := by decide

theorem witness_OutputsAtTickZero : Config.atReset.wellFormed = true ∧
    (Config.atReset.table Config.atReset.emitPattern).words[0]? = some 0xBCBCBCBC ∧
    Pattern.hasCfg .trainB = true := by decide

/-- Two machines that differ in every component but one detector and its stream. -/
theorem witness_ComponentsDoNotInterfere_detector :
    let s := onDet 1 1 (flags true false true) 0x4A4A0D00 0
    let s' : State := { busyState with
      detTrainA := s.detTrainA, cfgTrainA := s.cfgTrainA, inputs := { s.inputs with send := true } }
    step s = .next (after s) ∧ step s' = .next (after s') ∧ s.config = s'.config ∧
      s.det .trainA = s'.det .trainA ∧ s.latches .trainA = s'.latches .trainA ∧
      s.inputs.rst = s'.inputs.rst ∧ s.inputs.sinkValid = s'.inputs.sinkValid ∧
      s.inputs.sinkData = s'.inputs.sinkData ∧ s.inputs.sinkCtrl = s'.inputs.sinkCtrl :=
  ⟨step_after (by decide), step_after (by decide), rfl, rfl, rfl, rfl, rfl, rfl, rfl⟩

/-- Two machines that differ in everything but the emitter, the sequencer and the oscillator that
stands alone, and their own lines. -/
theorem witness_ComponentsDoNotInterfere_others :
    let s' : State := { busyState with
      detTrainA := { adr := 0, count := 0 }
      inputs := { busyState.inputs with sinkValid := false, resetI := true } }
    let s := busyState
    step s = .next (after s) ∧ step s' = .next (after s') ∧ s.config = s'.config ∧
      (s.emt = s'.emt ∧ s.inputs.rst = s'.inputs.rst ∧ s.inputs.send = s'.inputs.send ∧
        s.inputs.sourceReady = s'.inputs.sourceReady) ∧
      (s.repCnt = s'.repCnt ∧ s.seqOsc = s'.seqOsc ∧ s.inputs.polling = s'.inputs.polling) ∧
      s.bareOsc = s'.bareOsc ∧ s.inputs.oscRst = s'.inputs.oscRst ∧
      s.inputs.oscStart = s'.inputs.oscStart ∧ s.inputs.oscLength = s'.inputs.oscLength :=
  ⟨step_after (by decide), step_after (by decide), rfl, ⟨rfl, rfl, rfl, rfl⟩, ⟨rfl, rfl, rfl⟩,
    rfl, rfl, rfl, rfl⟩

theorem witness_StepIsTheWholeTransition :
    step busyState = .next (after busyState) ∧ busyState.pending = Inputs.quiet :: [] :=
  ⟨step_after (by decide), rfl⟩

/-- An index in the table, the last one, and the first one outside. -/
theorem witness_PatReadGivesTheWord :
    (busyState.config.table (busyState.readerPattern .emitter)).words[busyState.readerAdr .emitter]?
      = some 0x4A4A4A4A ∧
    (let s := onDet 3 3 (flags false false false) 0 0
     (s.config.table .trainA).words[s.readerAdr (.detector .trainA)]? = some 0x4A4A4A4A) ∧
    (let s := onDet 4 3 (flags false false false) 0 0
     s.config.depth .trainA ≤ s.readerAdr (.detector .trainA)) := by decide

theorem witness_PatCtrlGivesTheMarker :
    State.reset.readerAdr .emitter = 0 ∧ busyState.readerAdr .emitter ≠ 0 ∧
    (onDet 1 1 (flags false false false) 0 0).readerAdr (.detector .trainA) ≠ 0 ∧
    State.reset.config.wellFormed = true := by decide

/-- Word 1 with and without config bits, and the indices beside it. -/
theorem witness_PatMaskGivesTheHole :
    (let s := onDet 1 1 (flags false false false) 0 0
     s.readerPattern (.detector .trainA) ≠ .framing ∧ s.readerAdr (.detector .trainA) = 1) ∧
    (let s : State := { State.reset with detFraming := { adr := 1, count := 1 } }
     s.readerPattern (.detector .framing) = .framing ∧ s.readerAdr (.detector .framing) = 1) ∧
    State.reset.readerAdr (.detector .trainA) ≠ 1 ∧ busyState.readerAdr (.detector .trainA) ≠ 1 := by
  decide

theorem witness_ErrorWireComparesBits :
    (busyState.config.table .trainA).words[(busyState.det .trainA).adr]? = some 0x4A4A4A4A ∧
    (let s := onDet 1 1 (flags false false false) 0x4A4A0D00 0
     (s.config.table .trainA).words[(s.det .trainA).adr]? = some 0x4A4A0000) := by decide

/-- The least repetition length too: `M = 2`. -/
theorem witness_DetMismatchRestarts_DetResetClears :
    2 ≤ busyState.config.mDet .trainA ∧
    2 ≤ (Config.mDet { Config.atReset with nDetFraming := 1 } .framing) := by decide

theorem witness_DetlLatchTakesReceivedFlags :
    Pattern.hasCfg .trainA = true ∧
    (onDet 1 1 (flags false false false) 0x4A4A0D00 0).selected (.detl .trainA)
      = .ok (.detlLatch .trainA) ∧
    (onDet 1 7 (flags false false false) 0x4A4A0D00 0).selected (.detl .trainA)
      = .ok (.detlLatch .trainA) := ⟨rfl, rfl, rfl⟩

theorem witness_DetlKeepKeepsEverything_DetlResetClearsLatches :
    Pattern.hasCfg .trainA = true ∧ Pattern.hasCfg .trainB = true := ⟨rfl, rfl⟩

theorem witness_DetectorCountsErrorFreeSymbols :
    Run 5 (states loopedEmission) ∧ Inv (states loopedEmission 0) ∧
    (states loopedEmission 0).det .trainA = { adr := 0, count := 0 } ∧
    ∀ k, k < 5 → (states loopedEmission k).inputs.rst = false ∧
      (states loopedEmission k).errorWire .trainA = false :=
  ⟨run_states (by decide), inv_of_check (by decide), rfl, by decide⟩

/-- A saturated detector that sees a mismatch, and one that sees none. -/
theorem witness_DetectedClearsOnlyByMismatchOrReset :
    (Inv busyState ∧ step busyState = .next (after busyState) ∧
      busyState.detected .trainA = true ∧ busyState.errorWire .trainA = true) ∧
    (let s : State := { busyState with inputs := Inputs.quiet }
     Inv s ∧ step s = .next (after s) ∧ s.detected .trainA = true ∧
       s.errorWire .trainA = false) :=
  ⟨⟨inv_of_check (by decide), step_after (by decide), by decide, by decide⟩,
    inv_of_check (by decide), step_after (by decide), by decide, by decide⟩

/-- Bit 0 of an interior word, and bits 7 and 16 beside the hole of the config word. -/
theorem witness_OneWrongBitRestarts :
    (Inv busyState ∧ busyState.stalled = false ∧ busyState.inputs.rst = false ∧
      busyState.inputs.sinkValid = true ∧
      (busyState.config.table .trainA).words[(busyState.det .trainA).adr]? = some 0x4A4A4A4A ∧
      busyState.inputs.sinkData.getLsbD 0 ≠ (0x4A4A4A4A : Data).getLsbD 0) ∧
    (let s := onDet 1 1 (flags false false false) 0x4A4B0080 0
     Inv s ∧ s.stalled = false ∧ s.inputs.rst = false ∧ s.inputs.sinkValid = true ∧
       (s.config.table .trainA).words[(s.det .trainA).adr]? = some 0x4A4A0000 ∧
       s.inputs.sinkData.getLsbD 7 ≠ (0x4A4A0000 : Data).getLsbD 7 ∧
       s.inputs.sinkData.getLsbD 16 ≠ (0x4A4A0000 : Data).getLsbD 16) :=
  ⟨⟨inv_of_check (by decide), by decide, by decide, by decide, by decide, by decide⟩,
    inv_of_check (by decide), by decide, by decide, by decide, by decide, by decide, by decide⟩

/-- Word 1, an interior word, and word 0 of an idle emitter. -/
theorem witness_EmitterDrivesConfigBits :
    State.reset.emt.adr = 0 ∧ busyState.emt.adr ≠ 0 ∧
    (let s := onEmt .refuse 1 0 true (emtLines false true true true false)
     (s.config.table s.config.emitPattern).words[s.emt.adr]? = some 0x4A4A0000) ∧
    (busyState.config.table busyState.config.emitPattern).words[busyState.emt.adr]?
      = some 0x4A4A4A4A := by decide

theorem witness_EmtIdle_EmtStart_EmtRun_selected :
    State.reset.selected .emt = .ok .emtIdle ∧
    (onEmt .refuse 0 7 false (emtLines true true false false true)).selected .emt = .ok .emtStart ∧
    2 ≤ State.reset.config.mEmit ∧ busyState.selected .emt = .ok .emtRun :=
  ⟨rfl, rfl, by decide, rfl⟩

theorem witness_EmitterStallFollowsPolicy :
    (onEmt .refuse 0 7 false Inputs.quiet).config.stallPolicy = .refuse ∧
    (onEmt .hold 0 7 false Inputs.quiet).config.stallPolicy = .hold ∧
    (onEmt .restart 0 7 false Inputs.quiet).config.stallPolicy = .restart := by decide

theorem witness_OneStartSendsWholeRepetitions :
    (states loopedEmission 0).config.mEmit = 4 ∧ Run 4 (states loopedEmission) ∧
    (states loopedEmission 0).config.wellFormed = true ∧ (states loopedEmission 0).emt.adr = 0 ∧
    (states loopedEmission 0).emtDone = true ∧ (states loopedEmission 0).inputs.send = true ∧
    ∀ k, k < 4 → (states loopedEmission k).inputs.rst = false ∧
      (states loopedEmission k).inputs.sourceReady = true :=
  ⟨by decide, run_states (by decide), by decide, by decide, by decide, by decide, by decide⟩

/-- Six ticks with every request held high: the emitter sends, the oscillators burst. -/
def requesting (length : BurstTicks) : State :=
  let held : Inputs := { Inputs.quiet with send := true, oscStart := true, oscLength := length }
  driven held (List.replicate 5 held)

theorem witness_ContinuousSendNeverPauses :
    let σ := states (requesting 1)
    Run 6 σ ∧ (σ 0).config.wellFormed = true ∧ (σ 0).emt.adr = 0 ∧ (σ 0).emtDone = true ∧
      ∀ k, k < 6 → (σ k).inputs.rst = false ∧ (σ k).inputs.send = true ∧
        (σ k).inputs.sourceReady = true :=
  ⟨run_states (by decide), by decide, by decide, by decide, by decide⟩

/-- A burst of one tick, and of none. -/
theorem witness_StartHeldRepeatsBursts :
    (let σ := states (requesting 1)
     Run 6 σ ∧ ((σ 0).osc .bare).busy = false ∧
       ∀ k, k < 6 → (σ k).inputs.oscRst = false ∧ (σ k).inputs.oscStart = true ∧
         (σ k).inputs.oscLength = 1) ∧
    (let σ := states (requesting 0)
     Run 6 σ ∧ ((σ 0).osc .bare).busy = false ∧
       ∀ k, k < 6 → (σ k).inputs.oscRst = false ∧ (σ k).inputs.oscStart = true ∧
         (σ k).inputs.oscLength = 0) :=
  ⟨⟨run_states (by decide), by decide, by decide⟩, run_states (by decide), by decide, by decide⟩

theorem witness_ConfigWordRoundTrip :
    let s : State := { onEmt .refuse 1 0 true (emtLines false true true false false) with
      detTrainA := { adr := 1, count := 1 }
      inputs := { emtLines false true true false false with
        sinkValid := true, sinkData := 0x4A4A0900, sinkCtrl := 0 } }
    s.config.wellFormed = true ∧ s.inRange = true ∧ s.inputs = s.looped.inputs ∧
      s.inputs.rst = false ∧ s.sourceValid = true ∧ s.config.emitPattern.hasCfg = true ∧
      s.emt.adr = 1 ∧ (s.det s.config.emitPattern).adr = 1 := by decide

theorem witness_LoopedEmitterIsDetected :
    Run 5 (states loopedEmission) ∧
    (states loopedEmission 0).config.mDet (states loopedEmission 0).config.emitPattern
      = (states loopedEmission 0).config.mEmit ∧
    (states loopedEmission 0).det (states loopedEmission 0).config.emitPattern
      = { adr := 0, count := 0 } ∧
    (states loopedEmission 0).emt.adr = 0 ∧ (states loopedEmission 0).emtDone = true ∧
    (states loopedEmission 0).inputs.send = true ∧
    (∀ k, k < 5 → (states loopedEmission k).inputs.rst = false ∧
      (states loopedEmission k).inputs = (states loopedEmission k).looped.inputs) ∧
    (states loopedEmission 0).config.wellFormed = true :=
  ⟨run_states (by decide), by decide, by decide, by decide, by decide, by decide, by decide,
    by decide⟩

/-- The last burst tick but one, the longest burst, and the value no rule gives a meaning. -/
theorem witness_OscRunCountsDown :
    ((onOsc (oscState 0 false true 2 false) false false 0).osc .bare).remaining ≠ 0 ∧
    ((onOsc (oscState 0 false true 4294967295 false) false false 0).osc .bare).remaining ≠ 0 ∧
    ((onOsc (oscState 0 false true 0 false) false false 0).osc .bare).remaining = 0 := by decide

theorem witness_WaveRunsFreely :
    Run 3 (states bursting) ∧ ((states bursting 0).osc .bare).halfCnt = 0 ∧
    ((states bursting 0).osc .bare).level = false ∧
    (∀ k, k < 3 → (states bursting k).oscRst .bare = false) ∧
    1 ≤ (states bursting 0).config.half :=
  ⟨run_states (by decide), by decide, by decide, by decide, by decide⟩

theorem witness_BurstHasItsLength :
    Run (2 + 1) (states bursting) ∧
    (states bursting 0).selected (.osc .bare) = .ok (.oscStart .bare) ∧
    ((states bursting 0).oscLength .bare).toNat = 2 ∧
    (∀ k, k ≤ 2 → (states bursting k).oscRst .bare = false) ∧
    step (states bursting 3) = .next (after (states bursting 3)) ∧
    ((states bursting 0).osc .bare).halfCnt = 0 % (states bursting 0).config.half ∧
    (((states bursting 0).osc .bare).level = true ↔ 0 / (states bursting 0).config.half % 2 = 1) :=
  ⟨run_states (by decide), rfl, by decide, by decide, step_after (by decide), by decide, by decide⟩

theorem witness_BurstDutyCycleIsBounded :
    let σ := states (after bursting)
    Run 2 σ ∧ ∀ k, k < 2 → (σ k).oscRst .bare = false ∧ (σ k).txIdle .bare = false :=
  ⟨run_states (by decide), by decide⟩

theorem witness_SeqWait_SeqFire_SeqReset_selected :
    State.reset.selected .seq = .ok .seqWait ∧ polled.selected .seq = .ok .seqFire ∧
    (onSeq 3 (oscState 0 true true 1 false) true false).inputs.rst = true := ⟨rfl, rfl, rfl⟩

theorem witness_FireAlwaysStartsABurst :
    Inv polled ∧ polled.inputs.rst = false ∧ polled.fire = true :=
  ⟨inv_of_check (by decide), by decide, by decide⟩

theorem witness_PollingRepeatsBursts :
    Run 4 (states polled) ∧ Inv (states polled 0) ∧ (states polled 0).repCnt = 0 ∧
    ∀ k, k < 4 → (states polled k).inputs.rst = false ∧ (states polled k).inputs.polling = true :=
  ⟨run_states (by decide), inv_of_check (by decide), rfl, by decide⟩

theorem witness_HalfPeriodIsNearest :
    Ratio.positive { num := 125000000, den := 1 } = true ∧
    Ratio.positive { num := 50000000, den := 3 } = true := by decide

/-- A request for the machine of `Config.atReset`, the emitter's pattern by name. -/
def request (name : String) : ConfigRequest :=
  { tickRate := { num := 125000000, den := 1 }
    half := .given 2
    burst := .given 4 5
    framing := Config.atReset.framing
    trainA := Config.atReset.trainA
    trainB := Config.atReset.trainB
    nDetFraming := 2
    nDetTrainA := 2
    nDetTrainB := 2
    nEmit := 2
    emitPattern := name
    stallPolicy := none }

/-- A request with `HALF`, `L` and `P` given as values asks for `c`. -/
theorem requested_given {q : ConfigRequest} {c : Config} (half : q.half = .given c.half)
    (burst : q.burst = .given c.burstLength c.burstPeriod)
    (pattern : (q.emitPattern = "FRAMING" ∧ c.emitPattern = .framing) ∨
      (q.emitPattern = "TRAIN_A" ∧ c.emitPattern = .trainA) ∨
      (q.emitPattern = "TRAIN_B" ∧ c.emitPattern = .trainB))
    (tables : c.framing = q.framing ∧ c.trainA = q.trainA ∧ c.trainB = q.trainB)
    (counts : c.nDetFraming = q.nDetFraming ∧ c.nDetTrainA = q.nDetTrainA ∧
      c.nDetTrainB = q.nDetTrainB ∧ c.nEmit = q.nEmit)
    (policy : c.stallPolicy = q.stallPolicy.getD .refuse) : Requested q c where
  tables := tables
  counts := counts
  pattern := pattern
  half_given _ h := HalfChoice.given.inj (half.symm.trans h)
  half_derived _ h := nomatch half.symm.trans h
  burst_given _ _ h := BurstChoice.given.inj (burst.symm.trans h)
  burst_derived _ _ h := nomatch burst.symm.trans h
  policy := policy

theorem witness_OnlyWellFormedConfigurationsAreBuilt :
    build (request "TRAIN_A") = .ok State.reset ∧
    build (request "TSEQ") = .error .unknownPattern ∧
    Requested (request "TRAIN_A") Config.atReset ∧ (request "TRAIN_A").ratiosOk = true ∧
    Config.atReset.wellFormed = true ∧
    (let q : ConfigRequest := { request "TRAIN_A" with half := .given 0 }
     Requested q { Config.atReset with half := 0 } ∧
       Config.wellFormed { Config.atReset with half := 0 } = false) :=
  ⟨rfl, rfl,
    requested_given rfl rfl (.inr (.inl ⟨rfl, rfl⟩)) ⟨rfl, rfl, rfl⟩ ⟨rfl, rfl, rfl, rfl⟩ rfl,
    by decide, by decide,
    requested_given rfl rfl (.inr (.inl ⟨rfl, rfl⟩)) ⟨rfl, rfl, rfl⟩ ⟨rfl, rfl, rfl, rfl⟩ rfl,
    by decide⟩

theorem witness_CountersFitTheirWidths : Inv busyState ∧ Inv State.reset :=
  ⟨inv_of_check (by decide), inv_of_check (by decide)⟩

end Sys2Proof.Tests
end

section
/-! PROOFS. The pattern tables are never written (R52, R214): an operation writes at most one component's
registers, one detector's latches or one reader's wires, and none of these is the configuration. -/

namespace Sys2Proof.Machine

/-- The state `t` is `s` with at most one thing written: one component's registers, one detector's
latches, or one reader's wires. -/
inductive OneWrite (s : State) : State → Prop
  | nothing : OneWrite s s
  | det (p : Pattern) (d : Detector) : OneWrite s (s.setDet p d)
  | latches (p : Pattern) (l : LinkConfig) : OneWrite s (s.setLatches p l)
  | emt (e : Emitter) : OneWrite s { s with emt := e }
  | repCnt (n : Nat) : OneWrite s { s with repCnt := n }
  | osc (o : OscId) (x : Oscillator) : OneWrite s (s.setOsc o x)
  | wires (r : Reader) (w : PatWires) : OneWrite s (s.setWires r w)

theorem oneWrite_of_writeLatches {p : Pattern} {l : LinkConfig} {s t : State}
    (h : writeLatches p l s = .next t) : OneWrite s t := by
  obtain ⟨-, rfl⟩ := writeLatches_eq_next.mp h
  exact .latches p l

theorem oneWrite_of_stallEmitter {e : Emitter} {s t : State} (h : stallEmitter e s = .next t) :
    OneWrite s t := by
  obtain ⟨-, rfl⟩ | ⟨-, rfl⟩ := stallEmitter_eq_next.mp h
  · exact .nothing
  · exact .emt e

theorem oneWrite_of_execDetlKeep {p : Pattern} {s t : State} (h : execDetlKeep p s = .next t) :
    OneWrite s t := by
  unfold execDetlKeep at h
  split at h
  · cases h
    exact .nothing
  · cases h

theorem oneWrite_of_execOscRun {o : OscId} {s t : State} (h : execOscRun o s = .next t) :
    OneWrite s t := by
  unfold execOscRun at h
  split at h
  · cases h
  · cases h
    exact .osc o _

theorem oneWrite_of_execPatRead {r : Reader} {s t : State} (h : execPatRead r s = .next t) :
    OneWrite s t := by
  unfold execPatRead at h
  split at h
  · cases h
    exact .wires r _
  · cases h

theorem oneWrite_of_exec {i : Instr} {s t : State} (h : exec i s = .next t) : OneWrite s t := by
  cases i with
  | detHold | seqWait => cases h; exact .nothing
  | detReset | detMismatch | detMatch | detMatchSat => cases h; exact .det _ _
  | detlReset | detlLatch => exact oneWrite_of_writeLatches h
  | detlKeep => exact oneWrite_of_execDetlKeep h
  | emtReset | emtIdle | emtStart | emtRun => cases h; exact .emt _
  | emtStallStart | emtStallRun => exact oneWrite_of_stallEmitter h
  | oscRun => exact oneWrite_of_execOscRun h
  | oscReset | oscIdle | oscStart | oscStartZero | oscLast => cases h; exact .osc _ _
  | waveReset | waveCount | waveToggle => cases h; exact .osc _ _
  | seqReset | seqFire | seqCount | seqWrap => cases h; exact .repCnt _
  | patRead => exact oneWrite_of_execPatRead h
  | patCtrl | patMask => cases h; exact .wires _ _

theorem OneWrite.config_eq {s t : State} (h : OneWrite s t) : t.config = s.config := by
  cases h with
  | nothing | emt | repCnt => rfl
  | det p d => exact config_setDet s p d
  | latches p l => exact config_setLatches s p l
  | osc o x => exact config_setOsc s o x
  | wires r w => exact config_setWires s r w

theorem step_config {s t : State} (h : step s = .next t) : t.config = s.config := by
  obtain ⟨-, -, e, -, rfl⟩ := (step_next_iff s t).mp h
  exact config_nextState s e

/-- The tables are part of the configuration (R6). -/
theorem sameTables_of_config_eq {s t : State} (h : t.config = s.config) : SameTables s t := by
  intro p adr
  rw [h]
  exact ⟨rfl, rfl, rfl⟩

/-- Settles O9: an operation writes at most one thing beside the configuration, and the step installs
the next registers over the same configuration. -/
theorem tablesAreNeverWritten : Obligations.TablesAreNeverWritten := by
  constructor
  · intro i s t h
    have hconfig := (oneWrite_of_exec h).config_eq
    exact ⟨hconfig, sameTables_of_config_eq hconfig⟩
  · intro s t h
    exact ⟨step_config h, sameTables_of_config_eq (step_config h)⟩

end Sys2Proof.Machine
end

section
/-! PROOFS. Components do not interfere (R61): each component's part of the closed form of the step
(`step_next_iff`, `nextState`) reads only what that component sees. -/

namespace Sys2Proof.Machine

/-- What the detector of pattern `p` sees is the same in both machines: the configuration, its own
`adr` and `count`, and its input lines (R23). Its latches are not among it, for only the next latches
read them. -/
structure SameDetectorView (p : Pattern) (s s' : State) : Prop where
  config : s.config = s'.config
  det : s.det p = s'.det p
  rst : s.inputs.rst = s'.inputs.rst
  sinkValid : s.inputs.sinkValid = s'.inputs.sinkValid
  sinkData : s.inputs.sinkData = s'.inputs.sinkData
  sinkCtrl : s.inputs.sinkCtrl = s'.inputs.sinkCtrl

/-- What the emitter's next registers depend on is the same in both machines (R27, R28). -/
structure SameEmitterView (s s' : State) : Prop where
  config : s.config = s'.config
  emt : s.emt = s'.emt
  rst : s.inputs.rst = s'.inputs.rst
  send : s.inputs.send = s'.inputs.send
  sourceReady : s.inputs.sourceReady = s'.inputs.sourceReady

/-- What oscillator `o` sees is the same in both machines (R31, R32): its lines are inputs of the
machine where it stands alone, and driven by the sequencer where it is wrapped (R36). -/
structure SameOscillatorView (o : OscId) (s s' : State) : Prop where
  config : s.config = s'.config
  osc : s.osc o = s'.osc o
  rst : s.oscRst o = s'.oscRst o
  start : s.oscStart o = s'.oscStart o
  length : s.oscLength o = s'.oscLength o

/-- What `rep_cnt` depends on is the same in both machines (R35, R36). -/
structure SameSequencerView (s s' : State) : Prop where
  config : s.config = s'.config
  repCnt : s.repCnt = s'.repCnt
  rst : s.inputs.rst = s'.inputs.rst
  polling : s.inputs.polling = s'.inputs.polling

theorem SameDetectorView.patWires_eq {p : Pattern} {s s' : State} (h : SameDetectorView p s s') :
    s.patWires (.detector p) = s'.patWires (.detector p) := by
  simp only [State.patWires, State.readerPattern, State.readerAdr, h.config, h.det]

theorem SameDetectorView.errorWire_eq {p : Pattern} {s s' : State} (h : SameDetectorView p s s') :
    s.errorWire p = s'.errorWire p := by
  simp only [State.errorWire, errorOf, h.patWires_eq, h.sinkValid, h.sinkData, h.sinkCtrl]

theorem SameDetectorView.detectorNext_eq {p : Pattern} {s s' : State}
    (h : SameDetectorView p s s') : detectorNext s p = detectorNext s' p := by
  simp only [detectorNext, h.errorWire_eq, h.config, h.det, h.rst, h.sinkValid]

theorem SameDetectorView.latchesNext_eq {p : Pattern} {s s' : State}
    (h : SameDetectorView p s s') : latchesNext s p = latchesNext s' p := by
  funext l
  simp only [latchesNext, h.errorWire_eq, h.det, h.rst, h.sinkValid, h.sinkData]

theorem SameEmitterView.emtDone_eq {s s' : State} (h : SameEmitterView s s') :
    s.emtDone = s'.emtDone := by
  simp only [State.emtDone, h.config, h.emt]

theorem SameEmitterView.emitterNext_eq {s s' : State} (h : SameEmitterView s s') :
    emitterNext s = emitterNext s' := by
  unfold emitterNext State.sourceValid
  rw [h.emtDone_eq, h.config, h.emt, h.rst, h.send, h.sourceReady]

theorem SameOscillatorView.oscillatorNext_eq {o : OscId} {s s' : State}
    (h : SameOscillatorView o s s') : oscillatorNext s o = oscillatorNext s' o := by
  simp only [oscillatorNext, h.config, h.osc, h.rst, h.start, h.length]

theorem SameSequencerView.repCntNext_eq {s s' : State} (h : SameSequencerView s s') :
    repCntNext s = repCntNext s' := by
  simp only [repCntNext, h.config, h.repCnt, h.rst, h.polling]

/-- The sequencer drives its oscillator from what it sees itself: `start = fire`, `length = L` and its
own `rst` (R36). -/
theorem SameSequencerView.oscillatorView {s s' : State} (h : SameSequencerView s s')
    (hosc : s.seqOsc = s'.seqOsc) : SameOscillatorView .sequencer s s' where
  config := h.config
  osc := hosc
  rst := h.rst
  start := by simp only [State.oscStart, State.fire, h.repCnt, h.polling]
  length := by simp only [State.oscLength, h.config]

/-- Settles O12: both ticks have the closed form of `step_next_iff`, whose part for each component is
the same function of what that component sees. -/
theorem componentsDoNotInterfere : Obligations.ComponentsDoNotInterfere := by
  intro s s' t t' hstep hstep' hconfig
  obtain ⟨-, -, e, he, rfl⟩ := (step_next_iff s t).mp hstep
  obtain ⟨-, -, e', he', rfl⟩ := (step_next_iff s' t').mp hstep'
  refine ⟨?detectors, ?emitter, ?sequencer, ?bare⟩
  case detectors =>
    intro p hdet hlatches hrst hvalid hdata hctrl
    have hview : SameDetectorView p s s' := ⟨hconfig, hdet, hrst, hvalid, hdata, hctrl⟩
    rw [det_nextState, det_nextState, latches_nextState, latches_nextState]
    exact ⟨hview.detectorNext_eq, by rw [hview.latchesNext_eq, hlatches]⟩
  case emitter =>
    intro hemt hrst hsend hready
    have hview : SameEmitterView s s' := ⟨hconfig, hemt, hrst, hsend, hready⟩
    have hsome : some e = some e' := by rw [← he, ← he', hview.emitterNext_eq]
    exact Option.some.inj hsome
  case sequencer =>
    intro hrep hosc hrst hpolling
    have hview : SameSequencerView s s' := ⟨hconfig, hrep, hrst, hpolling⟩
    exact ⟨hview.repCntNext_eq, (hview.oscillatorView hosc).oscillatorNext_eq⟩
  case bare =>
    intro hosc hrst hstart hlength
    have hview : SameOscillatorView .bare s s' := ⟨hconfig, hosc, hrst, hstart, hlength⟩
    exact hview.oscillatorNext_eq

end Sys2Proof.Machine
end

section
/-! PROOFS. The detector on symbols that match and on ticks that latch nothing (R114, R115, R119): when
DET.MATCH, DET.MATCH_SAT and DETL.KEEP are selected, and what a write of one detector's registers
leaves unchanged. -/

namespace Sys2Proof.Machine

/-! ## The rows of the select tables (R81, R82) -/

theorem detOp_eq_detMatch_iff {p : Pattern} {rst valid error sat : Bool} :
    detOp p rst valid error sat = .detMatch p ↔
      rst = false ∧ valid = true ∧ error = false ∧ sat = false := by
  unfold detOp
  split_ifs <;> simp_all

theorem detOp_eq_detMatchSat_iff {p : Pattern} {rst valid error sat : Bool} :
    detOp p rst valid error sat = .detMatchSat p ↔
      rst = false ∧ valid = true ∧ error = false ∧ sat = true := by
  unfold detOp
  split_ifs <;> simp_all

theorem detlOp_eq_detlKeep_iff {p : Pattern} {rst latchEn : Bool} :
    detlOp p rst latchEn = .detlKeep p ↔ rst = false ∧ latchEn = false := by
  unfold detlOp
  split_ifs <;> simp_all

/-! ## The bits `sat` and `latch_en` (R81, R82) -/

theorem detected_eq_true_iff {s : State} {p : Pattern} :
    s.detected p = true ↔ (s.det p).count = s.config.mDet p - 1 := by
  simp [State.detected]

theorem detected_eq_false_iff {s : State} {p : Pattern} :
    s.detected p = false ↔ (s.det p).count ≠ s.config.mDet p - 1 := by
  simp [State.detected]

theorem latchEn_eq_false_iff {s : State} {p : Pattern} {error : Bool} :
    s.latchEn p error = false ↔
      s.inputs.sinkValid = false ∨ (s.det p).adr ≠ 1 ∨ error = true := by
  simp only [State.latchEn, Bool.and_eq_false_iff, beq_eq_false_iff_ne, Bool.not_eq_false', or_assoc,
    ne_eq]

/-! ## When the operations are selected -/

theorem selected_detMatch_iff (s : State) (p : Pattern) :
    s.selected (.det p) = .ok (.detMatch p) ↔
      s.inputs.rst = false ∧ s.inputs.sinkValid = true ∧ s.errorWire p = false ∧
        (s.det p).count ≠ s.config.mDet p - 1 := by
  rw [selected_det, Except.ok.injEq, detOp_eq_detMatch_iff, detected_eq_false_iff]

theorem selected_detMatchSat_iff (s : State) (p : Pattern) :
    s.selected (.det p) = .ok (.detMatchSat p) ↔
      s.inputs.rst = false ∧ s.inputs.sinkValid = true ∧ s.errorWire p = false ∧
        (s.det p).count = s.config.mDet p - 1 := by
  rw [selected_det, Except.ok.injEq, detOp_eq_detMatchSat_iff, detected_eq_true_iff]

theorem selected_detlKeep_iff {p : Pattern} (h : p.hasCfg = true) (s : State) :
    s.selected (.detl p) = .ok (.detlKeep p) ↔
      s.inputs.rst = false ∧
        (s.inputs.sinkValid = false ∨ (s.det p).adr ≠ 1 ∨ s.errorWire p = true) := by
  rw [selected_detl s p h, Except.ok.injEq, detlOp_eq_detlKeep_iff, latchEn_eq_false_iff]

/-! ## A write of one detector's registers -/

theorem detFrame_setDet (s : State) (p : Pattern) (d : Detector) : DetFrame p s (s.setDet p d) := by
  have hconfig := config_setDet s p d
  refine ⟨?surroundings, wires_setDet s p d, ?detectors, emt_setDet s p d, repCnt_setDet s p d,
    osc_setDet s p d⟩
  case surroundings =>
    exact ⟨hconfig, sameTables_of_config_eq hconfig, inputs_setDet s p d, pending_setDet s p d,
      tick_setDet s p d⟩
  case detectors => exact ⟨fun q hq => det_setDet_ne s p q d hq, fun q => latches_setDet s p q d⟩

theorem detected_setDet_iff {s : State} {p : Pattern} {d : Detector} :
    (s.setDet p d).detected p = true ↔ d.count = s.config.mDet p - 1 := by
  rw [detected_eq_true_iff, det_setDet_same, config_setDet]

/-- `detected` reads only `count` (R113). -/
theorem detected_setDet_of_count_eq {s : State} {p : Pattern} {d : Detector}
    (h : d.count = (s.det p).count) : (s.setDet p d).detected p = s.detected p := by
  rw [Bool.eq_iff_iff, detected_setDet_iff, detected_eq_true_iff, h]

/-! ## The statements -/

/-- Settles O19: `detected` rises at the next tick exactly when `count + 1 = M - 1`. -/
theorem detMatchAdvances : Obligations.DetMatchAdvances := by
  intro p s
  refine ⟨selected_detMatch_iff s p, s.setDet p _, rfl, ?adr, ?count, ?rises, detFrame_setDet s p _⟩
  case adr => rw [det_setDet_same, wrapIncr]
  case count => rw [det_setDet_same]
  case rises =>
    have hrises : (s.det p).count + 1 = s.config.mDet p - 1 ↔
        (s.det p).count + 2 = s.config.mDet p := by omega
    exact detected_setDet_iff.trans hrises

/-- Settles O20: the write leaves `count` as it is, and so `detected`, which reads only `count`. -/
theorem detMatchSatKeepsCount : Obligations.DetMatchSatKeepsCount := by
  intro p s
  refine ⟨selected_detMatchSat_iff s p, s.setDet p _, rfl, ?adr, ?count,
    detected_setDet_of_count_eq rfl, detFrame_setDet s p _⟩
  case adr => rw [det_setDet_same, wrapIncr]
  case count => rw [det_setDet_same]

/-- DETL.KEEP assigns nothing where the group exists (R82). -/
theorem exec_detlKeep {p : Pattern} (h : p.hasCfg = true) (s : State) :
    exec (.detlKeep p) s = .next s := by
  have hdispatch : exec (.detlKeep p) s = execDetlKeep p s := rfl
  rw [hdispatch, execDetlKeep, if_pos h]

/-- Settles O24: `latch_en` is 0 exactly without a symbol, at an index but 1, or on a mismatch. -/
theorem detlKeepKeepsEverything : Obligations.DetlKeepKeepsEverything := by
  intro p s h
  exact ⟨selected_detlKeep_iff h s, exec_detlKeep h s⟩

end Sys2Proof.Machine
end

section
/-! PROOFS. The idle emitter (R131, R137): when EMT.IDLE is selected, that it then offers no symbol, and
what a write of the emitter's registers leaves unchanged. -/

namespace Sys2Proof.Machine

/-- The row `010-` of the select table of EMT: `ready` is a don't-care bit (R83). -/
theorem emtOp_eq_emtIdle_iff {rst done send ready : Bool} :
    emtOp rst done send ready = .emtIdle ↔ rst = false ∧ done = true ∧ send = false := by
  unfold emtOp
  split_ifs <;> simp_all

theorem selected_emtIdle_iff (s : State) :
    s.selected .emt = .ok .emtIdle ↔
      s.inputs.rst = false ∧ s.emtDone = true ∧ s.inputs.send = false := by
  rw [selected_emt, Except.ok.injEq, emtOp_eq_emtIdle_iff]

/-- No symbol is offered exactly when no emission is asked for and none is under way (R131). -/
theorem sourceValid_eq_false_iff {s : State} :
    s.sourceValid = false ↔ s.inputs.send = false ∧ s.emtDone = true := by
  rw [State.sourceValid, Bool.or_eq_false_iff, Bool.not_eq_false']

theorem emtFrame_withEmt (s : State) (e : Emitter) : EmtFrame s { s with emt := e } :=
  ⟨⟨rfl, sameTables_of_config_eq rfl, rfl, rfl, rfl⟩, wires_withEmt s e, det_withEmt s e,
    latches_withEmt s e, rfl, osc_withEmt s e⟩

/-- `done` reads only `count` and the repeat count of the configuration (R131). -/
theorem emtDone_withEmt_of_count_eq {s : State} {e : Emitter} (h : e.count = s.emt.count) :
    State.emtDone { s with emt := e } = s.emtDone := by
  rw [State.emtDone, State.emtDone, h]

/-- Settles O31: the write leaves `count` as it is, and so `done`, which reads no other register. -/
theorem emtIdleHoldsAtZero : Obligations.EmtIdleHoldsAtZero := by
  intro s
  refine ⟨selected_emtIdle_iff s, ?noSymbol, { s with emt := _ }, rfl, rfl, rfl, rfl,
    emtDone_withEmt_of_count_eq rfl, emtFrame_withEmt s _⟩
  case noSymbol =>
    intro hselected
    obtain ⟨-, hdone, hsend⟩ := (selected_emtIdle_iff s).mp hselected
    exact sourceValid_eq_false_iff.mpr ⟨hsend, hdone⟩

end Sys2Proof.Machine
end

section
/-! PROOFS. The rules of one tick: what a well-formed configuration guarantees (R6), what a step gives
each component, and the next registers of each component, an equation for each of its operations. -/

namespace Sys2Proof.Machine

/-! ## What a well-formed configuration guarantees (R6, R78) -/

theorem wellFormed_iff (c : Config) : c.wellFormed = true ↔
    (∀ p, c.tableOk p = true ∧ 1 ≤ c.nDet p ∧ 2 ≤ c.mDet p) ∧ 1 ≤ c.nEmit ∧ 2 ≤ c.mEmit ∧
      1 ≤ c.half ∧ 1 ≤ c.burstLength ∧ c.burstLength < 2 ^ 32 ∧ c.burstLength + 1 ≤ c.burstPeriod := by
  simp only [Config.wellFormed, Config.countOk, Config.timingOk, Bool.and_eq_true, decide_eq_true_eq]
  constructor
  · rintro ⟨⟨⟨⟨⟨⟨⟨hf, ha⟩, hb⟩, hnf⟩, hna⟩, hnb⟩, hne⟩, ⟨⟨hhalf, hl⟩, hl32⟩, hp⟩
    refine ⟨fun p => ?_, hne.1, hne.2, hhalf, hl, hl32, hp⟩
    cases p with
    | framing => exact ⟨hf, hnf⟩
    | trainA => exact ⟨ha, hna⟩
    | trainB => exact ⟨hb, hnb⟩
  · rintro ⟨hdet, hn, hm, hhalf, hl, hl32, hp⟩
    obtain ⟨hf, hnf⟩ := hdet .framing
    obtain ⟨ha, hna⟩ := hdet .trainA
    obtain ⟨hb, hnb⟩ := hdet .trainB
    exact ⟨⟨⟨⟨⟨⟨⟨hf, ha⟩, hb⟩, hnf⟩, hna⟩, hnb⟩, hn, hm⟩, ⟨⟨hhalf, hl⟩, hl32⟩, hp⟩

section WellFormed
variable {c : Config} (h : c.wellFormed = true)
include h

theorem firstCtrl_ne_zero (p : Pattern) : (c.table p).firstCtrl ≠ 0 := by
  obtain ⟨htable, -⟩ := ((wellFormed_iff c).mp h).1 p
  simp only [Config.tableOk, Bool.and_eq_true, bne_iff_ne] at htable
  exact htable.2

theorem depth_pos (p : Pattern) : 0 < c.depth p := by
  obtain ⟨htable, -⟩ := ((wellFormed_iff c).mp h).1 p
  simp only [Config.tableOk, Bool.and_eq_true, decide_eq_true_eq] at htable
  exact htable.1.1

theorem two_le_mDet (p : Pattern) : 2 ≤ c.mDet p := by
  obtain ⟨-, -, hm⟩ := ((wellFormed_iff c).mp h).1 p
  exact hm

theorem emitDepth_pos : 0 < c.emitDepth := depth_pos h c.emitPattern

theorem two_le_mEmit : 2 ≤ c.mEmit := by
  obtain ⟨-, -, hm, -⟩ := (wellFormed_iff c).mp h
  exact hm

theorem half_pos : 0 < c.half := by
  obtain ⟨-, -, -, hhalf, -⟩ := (wellFormed_iff c).mp h
  exact hhalf

theorem burstLength_pos : 0 < c.burstLength := by
  obtain ⟨-, -, -, -, hl, -⟩ := (wellFormed_iff c).mp h
  exact hl

theorem burstLength_lt_burstPeriod : c.burstLength < c.burstPeriod := by
  obtain ⟨-, -, -, -, -, -, hp⟩ := (wellFormed_iff c).mp h
  exact hp

/-- `L` fits the oscillator's `length` port (R6). -/
theorem toNat_burstLength : (BitVec.ofNat 32 c.burstLength).toNat = c.burstLength := by
  obtain ⟨-, -, -, -, -, hl, -⟩ := (wellFormed_iff c).mp h
  rw [BitVec.toNat_ofNat, Nat.mod_eq_of_lt hl]

end WellFormed

/-- A repetition is whole passes over the pattern (R76). -/
theorem mEmit_mod_emitDepth (c : Config) : c.mEmit % c.emitDepth = 0 := Nat.mul_mod_right _ _

/-! ## What a step gives each component -/

section Step
variable {s t : State} (h : step s = .next t)
include h

theorem wellFormed_of_step : s.config.wellFormed = true := ((step_next_iff s t).mp h).1

theorem inRange_of_step : s.inRange = true := ((step_next_iff s t).mp h).2.1

theorem det_of_step (p : Pattern) : t.det p = detectorNext s p := by
  obtain ⟨-, -, e, -, rfl⟩ := (step_next_iff s t).mp h
  exact det_nextState s e p

theorem latches_of_step (p : Pattern) : t.latches p = (s.latches p).map (latchesNext s p) := by
  obtain ⟨-, -, e, -, rfl⟩ := (step_next_iff s t).mp h
  exact latches_nextState s e p

theorem emitterNext_of_step : emitterNext s = some t.emt := by
  obtain ⟨-, -, e, he, rfl⟩ := (step_next_iff s t).mp h
  exact he

theorem repCnt_of_step : t.repCnt = repCntNext s := by
  obtain ⟨-, -, e, -, rfl⟩ := (step_next_iff s t).mp h
  exact repCnt_nextState s e

theorem osc_of_step (o : OscId) : t.osc o = oscillatorNext s o := by
  obtain ⟨-, -, e, -, rfl⟩ := (step_next_iff s t).mp h
  exact osc_nextState s e o

theorem wires_of_step (r : Reader) : t.wires r = s.patWires r := by
  obtain ⟨-, -, e, -, rfl⟩ := (step_next_iff s t).mp h
  exact wires_nextState s e r

theorem tick_of_step : t.tick = s.tick + 1 := by
  obtain ⟨-, -, e, -, rfl⟩ := (step_next_iff s t).mp h
  exact tick_nextState s e

theorem pending_of_step : t.pending = s.pending.tail := by
  obtain ⟨-, -, e, -, rfl⟩ := (step_next_iff s t).mp h
  exact pending_nextState s e

theorem inputs_of_step {inp : Inputs} {rest : List Inputs} (hp : s.pending = inp :: rest) :
    t.inputs = inp := by
  obtain ⟨-, -, e, -, rfl⟩ := (step_next_iff s t).mp h
  rw [inputs_nextState, hp, List.headD_cons]

end Step

/-- A step answers a next state, unless the policy refuses a stalled emitter. -/
theorem exists_step {s : State} (hc : s.config.wellFormed = true) (hr : s.inRange = true)
    (hstall : ¬ (s.stalled = true ∧ s.config.stallPolicy = .refuse)) : ∃ t, step s = .next t := by
  obtain ⟨e, he⟩ := Option.ne_none_iff_exists'.mp (mt (emitterNext_eq_none s).mp hstall)
  exact ⟨nextState s e, (step_next_iff s _).mpr ⟨hc, hr, e, he, rfl⟩⟩

/-! ## The next registers of a detector (R112 to R120) -/

/-- A symbol is in error only where there is one (R111). -/
theorem sinkValid_of_errorWire {s : State} {p : Pattern} (h : s.errorWire p = true) :
    s.inputs.sinkValid = true := by
  rw [State.errorWire, errorOf, Bool.and_eq_true] at h
  exact h.1

theorem detectorNext_of_rst {s : State} {p : Pattern} (h : s.inputs.rst = true) :
    detectorNext s p = { adr := 0, count := 0 } := by
  rw [detectorNext, if_pos h]

theorem detectorNext_of_errorWire {s : State} {p : Pattern} (h : s.errorWire p = true) :
    detectorNext s p = { adr := 0, count := 0 } := by
  simp [detectorNext, sinkValid_of_errorWire h, h]

theorem detectorNext_of_not_valid {s : State} {p : Pattern} (hrst : s.inputs.rst = false)
    (hvalid : s.inputs.sinkValid = false) : detectorNext s p = s.det p := by
  simp [detectorNext, hrst, hvalid]

/-- DET.MATCH and DET.MATCH_SAT in one: the counter goes up to `M-1` (R114, R115). -/
theorem detectorNext_of_match {s : State} {p : Pattern} (hrst : s.inputs.rst = false)
    (hvalid : s.inputs.sinkValid = true) (herror : s.errorWire p = false)
    (hcount : (s.det p).count < s.config.mDet p) :
    detectorNext s p = { adr := ((s.det p).adr + 1) % s.config.depth p
                         count := min ((s.det p).count + 1) (s.config.mDet p - 1) } := by
  have hmin : (if (s.det p).count = s.config.mDet p - 1 then (s.det p).count
      else (s.det p).count + 1) = min ((s.det p).count + 1) (s.config.mDet p - 1) := by
    split <;> omega
  simp [detectorNext, hrst, hvalid, herror, hmin]

/-- The four things a detector can do in a tick. -/
theorem detectorNext_cases (s : State) (p : Pattern) (hcount : (s.det p).count < s.config.mDet p) :
    ((s.inputs.rst = true ∨ s.errorWire p = true) ∧ detectorNext s p = { adr := 0, count := 0 }) ∨
    (s.inputs.rst = false ∧ s.errorWire p = false ∧
      ((s.inputs.sinkValid = false ∧ detectorNext s p = s.det p) ∨
       (s.inputs.sinkValid = true ∧
        detectorNext s p = { adr := ((s.det p).adr + 1) % s.config.depth p
                             count := min ((s.det p).count + 1) (s.config.mDet p - 1) }))) := by
  cases hrst : s.inputs.rst with
  | true => exact .inl ⟨.inl rfl, detectorNext_of_rst hrst⟩
  | false =>
    cases herror : s.errorWire p with
    | true => exact .inl ⟨.inr rfl, detectorNext_of_errorWire herror⟩
    | false =>
      cases hvalid : s.inputs.sinkValid with
      | false => exact .inr ⟨rfl, rfl, .inl ⟨rfl, detectorNext_of_not_valid hrst hvalid⟩⟩
      | true => exact .inr ⟨rfl, rfl, .inr ⟨rfl, detectorNext_of_match hrst hvalid herror hcount⟩⟩

theorem latchesNext_of_rst {s : State} {p : Pattern} (l : LinkConfig) (h : s.inputs.rst = true) :
    latchesNext s p l = LinkConfig.cleared := by
  rw [latchesNext, if_pos h]
  rfl

theorem latchesNext_of_errorWire {s : State} {p : Pattern} (l : LinkConfig)
    (hrst : s.inputs.rst = false) (h : s.errorWire p = true) : latchesNext s p l = l := by
  simp [latchesNext, hrst, h]

theorem latchesNext_of_configWord {s : State} {p : Pattern} (l : LinkConfig)
    (hrst : s.inputs.rst = false) (hvalid : s.inputs.sinkValid = true)
    (herror : s.errorWire p = false) (hadr : (s.det p).adr = 1) :
    latchesNext s p l = receivedConfig s.inputs.sinkData := by
  simp [latchesNext, hrst, hvalid, herror, hadr, receivedConfig]

/-! ## The next registers of the emitter (R137 to R141) -/

theorem emtDone_eq_true_iff {s : State} : s.emtDone = true ↔ s.emt.count = s.config.mEmit - 1 := by
  simp [State.emtDone]

theorem emtDone_eq_false_iff {s : State} : s.emtDone = false ↔ s.emt.count ≠ s.config.mEmit - 1 := by
  simp [State.emtDone]

/-- What the emitter does in a tick that is not refused. -/
inductive EmitterMove (s : State) : Emitter → Prop
  | reset (hrst : s.inputs.rst = true) : EmitterMove s (Emitter.reset s.config.mEmit)
  | hold (hpolicy : s.config.stallPolicy = .hold) : EmitterMove s s.emt
  | restartStart (hpolicy : s.config.stallPolicy = .restart) : EmitterMove s (startedEmitter 0)
  | restartRun (hpolicy : s.config.stallPolicy = .restart) (hdone : s.emtDone = false) :
      EmitterMove s (s.emtCounted 0)
  | start (hdone : s.emtDone = true) : EmitterMove s (startedEmitter s.emtNextAdr)
  | run (hdone : s.emtDone = false) : EmitterMove s (s.emtCounted s.emtNextAdr)
  | idle (hdone : s.emtDone = true) : EmitterMove s { s.emt with adr := 0, run := false }

theorem emitterNext_of_rst {s : State} (h : s.inputs.rst = true) :
    emitterNext s = some (Emitter.reset s.config.mEmit) := by
  rw [emitterNext, if_pos h]
  rfl

theorem emitterNext_of_start {s : State} (hrst : s.inputs.rst = false)
    (hready : s.inputs.sourceReady = true) (hdone : s.emtDone = true) (hsend : s.inputs.send = true) :
    emitterNext s = some (startedEmitter s.emtNextAdr) := by
  simp [emitterNext, hrst, hready, hdone, hsend, startedEmitter, State.emtNextAdr, wrapIncr]

theorem emitterNext_of_run {s : State} (hrst : s.inputs.rst = false)
    (hready : s.inputs.sourceReady = true) (hdone : s.emtDone = false) :
    emitterNext s = some (s.emtCounted s.emtNextAdr) := by
  simp [emitterNext, hrst, hready, hdone, State.emtCounted, State.emtNextAdr, wrapIncr]

theorem emitterNext_of_idle {s : State} (hrst : s.inputs.rst = false) (hdone : s.emtDone = true)
    (hsend : s.inputs.send = false) :
    emitterNext s = some { s.emt with adr := 0, run := false } := by
  simp [emitterNext, State.sourceValid, hrst, hdone, hsend]

/-- A symbol offered and not accepted (R140). -/
theorem emitterNext_of_stall {s : State} (hrst : s.inputs.rst = false) (hvalid : s.sourceValid = true)
    (hready : s.inputs.sourceReady = false) : emitterNext s =
      match s.config.stallPolicy with
      | .refuse => none
      | .hold => some s.emt
      | .restart => some (if s.emtDone then startedEmitter 0 else s.emtCounted 0) := by
  cases hpolicy : s.config.stallPolicy <;> cases hdone : s.emtDone <;>
    simp [emitterNext, hrst, hvalid, hready, hpolicy, hdone, startedEmitter, State.emtCounted]

theorem emitterMove_of_emitterNext {s : State} {e : Emitter} (h : emitterNext s = some e) :
    EmitterMove s e := by
  cases hrst : s.inputs.rst with
  | true =>
    rw [emitterNext_of_rst hrst] at h
    cases h
    exact .reset hrst
  | false =>
    cases hvalid : s.sourceValid with
    | false =>
      obtain ⟨hsend, hdone⟩ := sourceValid_eq_false_iff.mp hvalid
      rw [emitterNext_of_idle hrst hdone hsend] at h
      cases h
      exact .idle hdone
    | true =>
      cases hready : s.inputs.sourceReady with
      | false =>
        rw [emitterNext_of_stall hrst hvalid hready] at h
        cases hpolicy : s.config.stallPolicy with
        | refuse => rw [hpolicy] at h; cases h
        | hold => rw [hpolicy] at h; cases h; exact .hold hpolicy
        | restart =>
          rw [hpolicy] at h
          cases hdone : s.emtDone <;> rw [hdone] at h <;> cases h
          · exact .restartRun hpolicy hdone
          · exact .restartStart hpolicy
      | true =>
        cases hdone : s.emtDone with
        | false =>
          rw [emitterNext_of_run hrst hready hdone] at h
          cases h
          exact .run hdone
        | true =>
          have hsend : s.inputs.send = true := by simpa [State.sourceValid, hdone] using hvalid
          rw [emitterNext_of_start hrst hready hdone hsend] at h
          cases h
          exact .start hdone

/-! ## The next registers of an oscillator (R153 to R160) -/

theorem oscillatorNext_of_rst {s : State} {o : OscId} (h : s.oscRst o = true) :
    oscillatorNext s o = Oscillator.reset := by
  simp only [oscillatorNext, h, if_true]
  rfl

theorem oscillatorNext_of_last {s : State} {o : OscId} (hrst : s.oscRst o = false)
    (hbusy : (s.osc o).busy = true) (hlast : (s.osc o).remaining = 1) :
    (oscillatorNext s o).busy = false ∧ (oscillatorNext s o).remaining = 0 ∧
    (oscillatorNext s o).doneQ = true := by
  simp [oscillatorNext, hrst, hbusy, hlast]

theorem oscillatorNext_of_run {s : State} {o : OscId} (hrst : s.oscRst o = false)
    (hbusy : (s.osc o).busy = true) (hlast : (s.osc o).remaining ≠ 1) :
    (oscillatorNext s o).busy = true ∧
    (oscillatorNext s o).remaining = (s.osc o).remaining - 1 ∧
    (oscillatorNext s o).doneQ = false := by
  simp only [BitVec.ofNat_eq_ofNat] at hlast
  simp [oscillatorNext, hrst, hbusy, hlast]

theorem oscillatorNext_of_start {s : State} {o : OscId} (hrst : s.oscRst o = false)
    (hbusy : (s.osc o).busy = false) (hstart : s.oscStart o = true) (hlen : s.oscLength o ≠ 0) :
    (oscillatorNext s o).busy = true ∧ (oscillatorNext s o).remaining = s.oscLength o ∧
    (oscillatorNext s o).doneQ = false := by
  simp only [BitVec.ofNat_eq_ofNat] at hlen
  simp [oscillatorNext, hrst, hbusy, hstart, hlen]

theorem oscillatorNext_of_startZero {s : State} {o : OscId} (hrst : s.oscRst o = false)
    (hbusy : (s.osc o).busy = false) (hstart : s.oscStart o = true) (hlen : s.oscLength o = 0) :
    (oscillatorNext s o).busy = false ∧ (oscillatorNext s o).remaining = (s.osc o).remaining ∧
    (oscillatorNext s o).doneQ = true := by
  simp [oscillatorNext, hrst, hbusy, hstart, hlen]

theorem oscillatorNext_of_idle {s : State} {o : OscId} (hrst : s.oscRst o = false)
    (hbusy : (s.osc o).busy = false) (hstart : s.oscStart o = false) :
    (oscillatorNext s o).busy = false ∧ (oscillatorNext s o).remaining = (s.osc o).remaining ∧
    (oscillatorNext s o).doneQ = false := by
  simp [oscillatorNext, hrst, hbusy, hstart]

/-- The wave of an oscillator that is not reset, whether or not a burst is in progress (R153, R154). -/
theorem oscillatorNext_wave {s : State} {o : OscId} (hrst : s.oscRst o = false) :
    (oscillatorNext s o).halfCnt =
      (if (s.osc o).halfCnt = s.config.half - 1 then 0 else (s.osc o).halfCnt + 1) ∧
    (oscillatorNext s o).level =
      (if (s.osc o).halfCnt = s.config.half - 1 then !(s.osc o).level else (s.osc o).level) := by
  simp [oscillatorNext, hrst]

/-! ## The next `rep_cnt` of the sequencer (R172 to R176) -/

theorem repCntNext_of_rst {s : State} (h : s.inputs.rst = true) : repCntNext s = 0 := by
  rw [repCntNext, if_pos h]

theorem fire_eq_true_iff {s : State} :
    s.fire = true ↔ s.repCnt = 0 ∧ s.inputs.polling = true := by
  simp [State.fire]

theorem repCntNext_of_fire {s : State} (hrst : s.inputs.rst = false) (h : s.fire = true) :
    repCntNext s = 1 := by
  obtain ⟨hzero, hpolling⟩ := fire_eq_true_iff.mp h
  simp [repCntNext, hrst, hzero, hpolling]

theorem repCntNext_of_ne_zero {s : State} (hrst : s.inputs.rst = false) (h : s.repCnt ≠ 0) :
    repCntNext s = if s.repCnt = s.config.burstPeriod - 1 then 0 else s.repCnt + 1 := by
  simp [repCntNext, hrst, h]

end Sys2Proof.Machine
end

section
/-! PROOFS. Every step keeps the invariant: for each component, that its next registers are in their
ranges (R88) and keep its own relation (R124, R143, R164, R178), from the cases of its transition. -/

namespace Sys2Proof.Machine

/-! ## The ranges of a state of the invariant -/

section Ranges
variable {s : State} (h : s.inRange = true)
include h

theorem det_inRange (p : Pattern) :
    (s.det p).adr < s.config.depth p ∧ (s.det p).count < s.config.mDet p :=
  ((inRange_iff s).mp h).1 p

theorem emt_inRange : s.emt.adr < s.config.emitDepth ∧ s.emt.count < s.config.mEmit :=
  ((inRange_iff s).mp h).2.1

theorem halfCnt_inRange (o : OscId) : (s.osc o).halfCnt < s.config.half :=
  (((inRange_iff s).mp h).2.2.1 o).1

theorem remaining_ne_zero {o : OscId} (hbusy : (s.osc o).busy = true) : (s.osc o).remaining ≠ 0 :=
  (((inRange_iff s).mp h).2.2.1 o).2 hbusy

theorem repCnt_inRange : s.repCnt < s.config.burstPeriod := ((inRange_iff s).mp h).2.2.2

end Ranges

/-! ## The detector -/

/-- What the invariant says of the detector of pattern `p` under configuration `c`: R22 and R124. -/
structure DetectorOk (c : Config) (p : Pattern) (d : Detector) : Prop where
  adr_lt : d.adr < c.depth p
  count_lt : d.count < c.mDet p
  aligned : d.count < c.mDet p - 1 → d.adr = d.count % c.depth p

theorem Inv.detectorOk {s : State} (h : Inv s) (p : Pattern) : DetectorOk s.config p (s.det p) where
  adr_lt := (det_inRange h.in_range p).1
  count_lt := (det_inRange h.in_range p).2
  aligned := h.det_aligned p

theorem detectorOk_reset {c : Config} (hc : c.wellFormed = true) (p : Pattern) :
    DetectorOk c p { adr := 0, count := 0 } where
  adr_lt := depth_pos hc p
  count_lt := Nat.lt_of_lt_of_le Nat.zero_lt_two (two_le_mDet hc p)
  aligned _ := (Nat.zero_mod _).symm

theorem detectorOk_match {c : Config} (hc : c.wellFormed = true) {p : Pattern} {d : Detector}
    (h : DetectorOk c p d) : DetectorOk c p
      { adr := (d.adr + 1) % c.depth p, count := min (d.count + 1) (c.mDet p - 1) } where
  adr_lt := Nat.mod_lt _ (depth_pos hc p)
  count_lt := by
    have hm := two_le_mDet hc p
    simp only
    omega
  aligned hlt := by
    simp only at hlt ⊢
    have hcount : d.count + 1 < c.mDet p - 1 := by omega
    rw [Nat.min_eq_left hcount.le, h.aligned (by omega), Nat.mod_add_mod]

theorem detectorOk_next {s : State} (hc : s.config.wellFormed = true) {p : Pattern}
    (h : DetectorOk s.config p (s.det p)) : DetectorOk s.config p (detectorNext s p) := by
  obtain ⟨-, hreset⟩ | ⟨-, -, ⟨-, hhold⟩ | ⟨-, hmatch⟩⟩ := detectorNext_cases s p h.count_lt
  · rw [hreset]; exact detectorOk_reset hc p
  · rw [hhold]; exact h
  · rw [hmatch]; exact detectorOk_match hc h

/-! ## The emitter -/

/-- What the invariant says of the emitter under configuration `c`: R27 and R143. -/
structure EmitterOk (c : Config) (e : Emitter) : Prop where
  adr_lt : e.adr < c.emitDepth
  count_lt : e.count < c.mEmit
  aligned : c.stallPolicy ≠ .restart →
    e.adr = (e.count + 1) % c.emitDepth ∧ (e.count ≠ c.mEmit - 1 → e.run = true)

theorem Inv.emitterOk {s : State} (h : Inv s) : EmitterOk s.config s.emt where
  adr_lt := (emt_inRange h.in_range).1
  count_lt := (emt_inRange h.in_range).2
  aligned hpolicy := by
    rw [← emtDone_eq_false_iff]
    exact h.emt_aligned hpolicy

/-- After the last symbol of a repetition the cursor is back at word 0. -/
theorem done_aligned {c : Config} (hc : c.wellFormed = true) :
    0 = (c.mEmit - 1 + 1) % c.emitDepth := by
  have hm := two_le_mEmit hc
  rw [Nat.sub_add_cancel (by omega), mEmit_mod_emitDepth]

theorem emitterOk_reset {c : Config} (hc : c.wellFormed = true) :
    EmitterOk c (Emitter.reset c.mEmit) where
  adr_lt := emitDepth_pos hc
  count_lt := Nat.sub_one_lt (by have hm := two_le_mEmit hc; omega)
  aligned _ := ⟨done_aligned hc, fun h => absurd rfl h⟩

theorem emitterOk_move {s : State} (hc : s.config.wellFormed = true) (h : EmitterOk s.config s.emt)
    {e : Emitter} (hmove : EmitterMove s e) : EmitterOk s.config e := by
  have hpos := emitDepth_pos hc
  have hm := two_le_mEmit hc
  have hlt := h.count_lt
  cases hmove with
  | reset hrst => exact emitterOk_reset hc
  | hold hpolicy => exact h
  | restartStart hpolicy => exact ⟨hpos, by simp only [startedEmitter]; omega, absurd hpolicy⟩
  | restartRun hpolicy hdone =>
    have hcount := emtDone_eq_false_iff.mp hdone
    exact ⟨hpos, by simp only [State.emtCounted]; omega, absurd hpolicy⟩
  | start hdone =>
    have hcount := emtDone_eq_true_iff.mp hdone
    refine ⟨Nat.mod_lt _ hpos, by simp only [startedEmitter]; omega, fun hpolicy => ?_⟩
    obtain ⟨hadr, -⟩ := h.aligned hpolicy
    rw [hcount, ← done_aligned hc] at hadr
    exact ⟨by simp only [startedEmitter, State.emtNextAdr, wrapIncr, hadr], fun _ => rfl⟩
  | run hdone =>
    have hcount := emtDone_eq_false_iff.mp hdone
    refine ⟨Nat.mod_lt _ hpos, by simp only [State.emtCounted]; omega, fun hpolicy => ?_⟩
    obtain ⟨hadr, hrun⟩ := h.aligned hpolicy
    refine ⟨?_, fun _ => hrun hcount⟩
    simp only [State.emtCounted, State.emtNextAdr, wrapIncr, hadr, Nat.mod_add_mod]
  | idle hdone =>
    have hcount := emtDone_eq_true_iff.mp hdone
    exact ⟨hpos, hlt, fun _ =>
      ⟨by simp only [hcount, ← done_aligned hc], fun hne => absurd hcount hne⟩⟩

/-! ## The oscillators -/

/-- What the invariant says of an oscillator under configuration `c`: R31 and R164. -/
structure OscillatorOk (c : Config) (x : Oscillator) : Prop where
  halfCnt_lt : x.halfCnt < c.half
  busy_remaining : x.busy = true → x.remaining ≠ 0
  idle_empty : x.busy = false → x.remaining = 0
  done_idle : x.doneQ = true → x.busy = false

theorem Inv.oscillatorOk {s : State} (h : Inv s) (o : OscId) : OscillatorOk s.config (s.osc o) where
  halfCnt_lt := halfCnt_inRange h.in_range o
  busy_remaining := remaining_ne_zero h.in_range
  idle_empty := h.idle_empty o
  done_idle := h.done_idle o

theorem oscillatorOk_reset {c : Config} (hc : c.wellFormed = true) :
    OscillatorOk c Oscillator.reset where
  halfCnt_lt := half_pos hc
  busy_remaining hbusy := nomatch hbusy
  idle_empty _ := rfl
  done_idle _ := rfl

theorem halfCnt_next_lt {s : State} {o : OscId} (hrst : s.oscRst o = false)
    (h : (s.osc o).halfCnt < s.config.half) : (oscillatorNext s o).halfCnt < s.config.half := by
  rw [(oscillatorNext_wave hrst).1]
  split <;> omega

theorem oscillatorOk_next {s : State} (hc : s.config.wellFormed = true) {o : OscId}
    (h : OscillatorOk s.config (s.osc o)) : OscillatorOk s.config (oscillatorNext s o) := by
  cases hrst : s.oscRst o with
  | true => rw [oscillatorNext_of_rst hrst]; exact oscillatorOk_reset hc
  | false =>
    have hhalf := halfCnt_next_lt hrst h.halfCnt_lt
    cases hbusy : (s.osc o).busy with
    | true =>
      by_cases hlast : (s.osc o).remaining = 1
      · obtain ⟨hb, hr, hd⟩ := oscillatorNext_of_last hrst hbusy hlast
        exact ⟨hhalf, by simp [hb], fun _ => hr, fun _ => hb⟩
      · obtain ⟨hb, hr, hd⟩ := oscillatorNext_of_run hrst hbusy hlast
        have hne : (s.osc o).remaining - 1 ≠ 0 := fun h0 => hlast (sub_eq_zero.mp h0)
        exact ⟨hhalf, fun _ => by rw [hr]; exact hne, by simp [hb], by simp [hd]⟩
    | false =>
      have hempty := h.idle_empty hbusy
      cases hstart : s.oscStart o with
      | false =>
        obtain ⟨hb, hr, hd⟩ := oscillatorNext_of_idle hrst hbusy hstart
        exact ⟨hhalf, by simp [hb], fun _ => hr.trans hempty, by simp [hd]⟩
      | true =>
        by_cases hlen : s.oscLength o = 0
        · obtain ⟨hb, hr, hd⟩ := oscillatorNext_of_startZero hrst hbusy hstart hlen
          exact ⟨hhalf, by simp [hb], fun _ => hr.trans hempty, fun _ => hb⟩
        · obtain ⟨hb, hr, hd⟩ := oscillatorNext_of_start hrst hbusy hstart hlen
          exact ⟨hhalf, fun _ => by rw [hr]; exact hlen, by simp [hb], by simp [hd]⟩

/-! ## The sequencer -/

theorem repCntNext_lt {s : State} (hc : s.config.wellFormed = true)
    (h : s.repCnt < s.config.burstPeriod) : repCntNext s < s.config.burstPeriod := by
  have hl := burstLength_pos hc
  have hp := burstLength_lt_burstPeriod hc
  unfold repCntNext
  split_ifs <;> omega

/-! ### The ticks left of a burst, as a number -/

theorem remaining_eq_zero_iff {r : BurstTicks} : r = 0 ↔ r.toNat = 0 :=
  ⟨fun h => by rw [h]; rfl, fun h => BitVec.eq_of_toNat_eq h⟩

theorem remaining_eq_one_iff {r : BurstTicks} : r = 1 ↔ r.toNat = 1 :=
  ⟨fun h => by rw [h]; rfl, fun h => BitVec.eq_of_toNat_eq h⟩

/-- A running burst counts down one tick as a number, while ticks are left. -/
theorem toNat_remaining_sub_one {r : BurstTicks} (h : r ≠ 0) : (r - 1).toNat = r.toNat - 1 := by
  have hle : (1 : BurstTicks) ≤ r := by bv_omega
  rw [BitVec.toNat_sub_of_le hle]
  rfl

/-! ### A burst and its period -/

/-- R178: a burst of the sequencer stays inside its period. Its ticks left and `rep_cnt` add up to
`L + 1` from the fire on, and `L < P` keeps `rep_cnt` from wrapping while the burst runs. -/
theorem burst_in_period_next {s : State} (h : Inv s)
    (hbusy' : (oscillatorNext s .sequencer).busy = true) :
    repCntNext s ≠ 0 ∧
      repCntNext s + (oscillatorNext s .sequencer).remaining.toNat = s.config.burstLength + 1 := by
  have hlp := burstLength_lt_burstPeriod h.config_ok
  cases hrst : s.oscRst .sequencer with
  | true => rw [oscillatorNext_of_rst hrst] at hbusy'; cases hbusy'
  | false =>
    cases hbusy : (s.osc .sequencer).busy with
    | true =>
      obtain ⟨hrep, hsum⟩ : s.repCnt ≠ 0 ∧
          s.repCnt + (s.osc .sequencer).remaining.toNat = s.config.burstLength + 1 :=
        h.burst_in_period hbusy
      have hne := remaining_ne_zero h.in_range hbusy
      by_cases hlast : (s.osc .sequencer).remaining = 1
      · rw [(oscillatorNext_of_last hrst hbusy hlast).1] at hbusy'
        cases hbusy'
      · obtain ⟨-, hr, -⟩ := oscillatorNext_of_run hrst hbusy hlast
        have h0 := remaining_eq_zero_iff.not.mp hne
        have h1 := remaining_eq_one_iff.not.mp hlast
        rw [repCntNext_of_ne_zero hrst hrep, if_neg (by omega), hr, toNat_remaining_sub_one hne]
        omega
    | false =>
      cases hfire : s.oscStart .sequencer with
      | false =>
        rw [(oscillatorNext_of_idle hrst hbusy hfire).1] at hbusy'
        cases hbusy'
      | true =>
        by_cases hlen : s.oscLength .sequencer = 0
        · rw [(oscillatorNext_of_startZero hrst hbusy hfire hlen).1] at hbusy'
          cases hbusy'
        · obtain ⟨-, hr, -⟩ := oscillatorNext_of_start hrst hbusy hfire hlen
          have hl : (s.oscLength .sequencer).toNat = s.config.burstLength :=
            toNat_burstLength h.config_ok
          rw [repCntNext_of_fire hrst hfire, hr, hl]
          omega

/-! ## The whole machine -/

/-- The invariant, component by component. -/
theorem inv_of_components {s : State} (hc : s.config.wellFormed = true)
    (hdet : ∀ p, DetectorOk s.config p (s.det p)) (hemt : EmitterOk s.config s.emt)
    (hosc : ∀ o, OscillatorOk s.config (s.osc o)) (hrep : s.repCnt < s.config.burstPeriod)
    (hburst : (s.osc .sequencer).busy = true → s.repCnt ≠ 0 ∧
      s.repCnt + (s.osc .sequencer).remaining.toNat = s.config.burstLength + 1) : Inv s where
  config_ok := hc
  in_range := (inRange_iff s).mpr
    ⟨fun p => ⟨(hdet p).adr_lt, (hdet p).count_lt⟩, ⟨hemt.adr_lt, hemt.count_lt⟩,
      fun o => ⟨(hosc o).halfCnt_lt, (hosc o).busy_remaining⟩, hrep⟩
  det_aligned p := (hdet p).aligned
  emt_aligned := by
    rw [emtDone_eq_false_iff]
    exact hemt.aligned
  idle_empty o := (hosc o).idle_empty
  done_idle o := (hosc o).done_idle
  burst_in_period := hburst

/-- Settles O7: the next registers of each component keep its part of the invariant. -/
theorem stepKeepsInvariant : Obligations.StepKeepsInvariant := by
  intro s t hinv hstep
  have hc := hinv.config_ok
  have hconfig := step_config hstep
  refine inv_of_components (hconfig ▸ hc) ?det ?emt ?osc ?rep ?burst
  case det =>
    intro p
    rw [hconfig, det_of_step hstep p]
    exact detectorOk_next hc (hinv.detectorOk p)
  case emt =>
    rw [hconfig]
    exact emitterOk_move hc hinv.emitterOk (emitterMove_of_emitterNext (emitterNext_of_step hstep))
  case osc =>
    intro o
    rw [hconfig, osc_of_step hstep o]
    exact oscillatorOk_next hc (hinv.oscillatorOk o)
  case rep =>
    rw [hconfig, repCnt_of_step hstep]
    exact repCntNext_lt hc (repCnt_inRange hinv.in_range)
  case burst =>
    rw [hconfig, repCnt_of_step hstep, osc_of_step hstep .sequencer]
    exact burst_in_period_next hinv

theorem inv_resetWith {c : Config} (hc : c.wellFormed = true) : Inv (State.resetWith c) := by
  refine inv_of_components hc ?det (emitterOk_reset hc) ?osc ?rep (fun hbusy => nomatch hbusy)
  case det => intro p; cases p <;> exact detectorOk_reset hc _
  case osc => intro o; cases o <;> exact oscillatorOk_reset hc
  case rep => exact Nat.lt_of_le_of_lt (Nat.zero_le _) (burstLength_lt_burstPeriod hc)

theorem wellFormed_atReset : Config.atReset.wellFormed = true := by decide

/-- Settles O8: the reset registers of each component satisfy its part of the invariant. -/
theorem resetStateHasInvariant : Obligations.ResetStateHasInvariant :=
  ⟨fun _ hc => inv_resetWith hc, inv_resetWith wellFormed_atReset⟩

end Sys2Proof.Machine
end

section
/-! PROOFS. The step as a whole: it performs the selected operations (R9, R80), where it stops (R7, R88,
R183), that it is the whole transition of each component, and what a reset tick leaves (R210). -/

namespace Sys2Proof.Machine

theorem wellFormed_detOp (p : Pattern) (rst valid error sat : Bool) :
    (detOp p rst valid error sat).wellFormed = true := by
  unfold detOp
  split_ifs <;> rfl

theorem wellFormed_detlOp {p : Pattern} (h : p.hasCfg = true) (rst latchEn : Bool) :
    (detlOp p rst latchEn).wellFormed = true := by
  unfold detlOp
  split_ifs <;> exact h

theorem wellFormed_emtOp (rst done send ready : Bool) :
    (emtOp rst done send ready).wellFormed = true := by
  unfold emtOp
  split_ifs <;> rfl

theorem wellFormed_oscOp (o : OscId) (rst busy last start lenz : Bool) :
    (oscOp o rst busy last start lenz).wellFormed = true := by
  unfold oscOp
  split_ifs <;> rfl

theorem wellFormed_waveOp (o : OscId) (rst wrap : Bool) : (waveOp o rst wrap).wellFormed = true := by
  unfold waveOp
  split_ifs <;> rfl

theorem wellFormed_seqOp (rst zero polling wrap : Bool) :
    (seqOp rst zero polling wrap).wellFormed = true := by
  unfold seqOp
  split_ifs <;> rfl

/-- The groups select from the settled wires, and each decodes to an operation of its own. -/
theorem decodeAll_selected (s : State) : ∃ is, decodeAll s.settled groupSlots = .ok is ∧
    is.map Except.ok = groupSlots.map s.selected ∧ ∀ i ∈ is, i.wellFormed = true := by
  refine ⟨_, decodeAll_groupSlots s, ?selected, ?wellFormed⟩
  case selected =>
    simp only [groupSlots, List.map_cons, List.map_nil, selected_det, selected_emt, selected_seq,
      selected_osc, selected_wave, selected_detl s .trainA hasCfg_trainA,
      selected_detl s .trainB hasCfg_trainB]
  case wellFormed =>
    simp only [List.forall_mem_cons, wellFormed_detOp, wellFormed_detlOp hasCfg_trainA,
      wellFormed_detlOp hasCfg_trainB, wellFormed_emtOp, wellFormed_oscOp, wellFormed_waveOp,
      wellFormed_seqOp, List.not_mem_nil, false_imp_iff, implies_true, and_true]

/-- Settles O4: the tick unfolds to the PAT operations, the decoded operations and the boundary. -/
theorem stepRunsSelectedOperations : Obligations.StepRunsSelectedOperations := by
  intro s hc hr
  obtain ⟨is, hdecode, hselected, hwf⟩ := decodeAll_selected s
  have hperform : perform groupSlots s.settled = execAll is s.settled := by
    simp only [perform, hdecode]
  refine ⟨perform_patSlots s hr, is, hselected, hwf, ?_⟩
  simp only [step, tick, hc, hr, if_true, perform_patSlots s hr, andThen, hperform]

/-- Settles O5: the two guards of the tick. -/
theorem illFormedConfigurationRefused : Obligations.IllFormedConfigurationRefused :=
  fun s => ⟨step_illFormed s, step_stuck s⟩

/-- Settles O6: the emitter has no next registers exactly where the policy refuses a stalled symbol. -/
theorem onlyStalledEmitterStops : Obligations.OnlyStalledEmitterStops := by
  intro s h
  refine ⟨fun hstall => ?_, exists_step h.config_ok h.in_range⟩
  rw [step_eq s h.config_ok h.in_range, (emitterNext_eq_none s).mpr hstall]

/-- Settles O13: the closed form of the step, component by component. -/
theorem stepIsTheWholeTransition : Obligations.StepIsTheWholeTransition := fun _ _ h =>
  ⟨det_of_step h, latches_of_step h, emitterNext_of_step h, repCnt_of_step h, osc_of_step h,
    wires_of_step h, tick_of_step h, pending_of_step h, fun _ _ => inputs_of_step h⟩

/-! ## A tick with `rst` (R210) -/

/-- The three flag outputs of a detector that has latches (R113). -/
theorem flags_of_latches {s : State} {p : Pattern} {l : LinkConfig} (h : s.latches p = some l) :
    s.resetO p = some l.reset ∧ s.loopbackO p = some l.loopback ∧
      s.scramblingO p = some l.scrambling := by
  simp [State.resetO, State.loopbackO, State.scramblingO, h]

/-- A detector with config bits has latches (R22). -/
theorem exists_latches {p : Pattern} (h : p.hasCfg = true) (s : State) :
    ∃ l, s.latches p = some l := by
  cases p with
  | framing => cases h
  | trainA => exact ⟨s.cfgTrainA, rfl⟩
  | trainB => exact ⟨s.cfgTrainB, rfl⟩

theorem not_stalled_of_rst {s : State} (h : s.inputs.rst = true) : s.stalled = false := by
  simp [State.stalled, h]

/-- Settles O10: on `rst` every component's transition gives its reset registers. -/
theorem resetTickLeavesResetValues : Obligations.ResetTickLeavesResetValues := by
  intro s hc hr
  refine ⟨fun hrst => ?unit, fun hrst hstall => ?bare⟩
  case unit =>
    obtain ⟨t, ht⟩ := exists_step hc hr (by simp [not_stalled_of_rst hrst])
    have hemt : t.emt = Emitter.reset s.config.mEmit :=
      Option.some.inj ((emitterNext_of_step ht).symm.trans (emitterNext_of_rst hrst))
    have hosc : t.seqOsc = Oscillator.reset :=
      (osc_of_step ht .sequencer).trans (oscillatorNext_of_rst hrst)
    refine ⟨t, ht, step_config ht, fun p => ?det, fun p hp => ?latches, ?registers⟩
    case det =>
      rw [det_of_step ht p, detectorNext_of_rst hrst]
      exact ⟨rfl, rfl⟩
    case latches =>
      obtain ⟨l, hl⟩ := exists_latches hp s
      have hcleared : t.latches p = some LinkConfig.cleared := by
        rw [latches_of_step ht p, hl, Option.map_some, latchesNext_of_rst l hrst]
      exact flags_of_latches hcleared
    case registers =>
      rw [hemt, hosc, repCnt_of_step ht, repCntNext_of_rst hrst]
      exact ⟨rfl, rfl, rfl, rfl, rfl, rfl, rfl, rfl, rfl⟩
  case bare =>
    obtain ⟨t, ht⟩ := exists_step hc hr hstall
    have hosc : t.bareOsc = Oscillator.reset :=
      (osc_of_step ht .bare).trans (oscillatorNext_of_rst hrst)
    refine ⟨t, ht, step_config ht, ?_⟩
    rw [hosc]
    exact ⟨rfl, rfl, rfl, rfl, rfl⟩

end Sys2Proof.Machine
end

section
/-! PROOFS. Runs: the configuration and the invariant along a run, and the induction on the tick that
every statement about a run uses. -/

namespace Sys2Proof.Machine

/-- Induction on the tick: what holds of the state at tick 0, and of each next state when it holds of
the state before, holds of every state of the run. -/
theorem Run.induct {n : Nat} {σ : Nat → State} {P : Nat → State → Prop} (hrun : Run n σ)
    (hzero : P 0 (σ 0))
    (hsucc : ∀ k, k < n → step (σ k) = .next (σ (k + 1)) → P k (σ k) → P (k + 1) (σ (k + 1))) :
    ∀ k, k ≤ n → P k (σ k) := by
  intro k
  induction k with
  | zero => exact fun _ => hzero
  | succ k ih => exact fun hk => hsucc k hk (hrun k hk) (ih (Nat.le_of_succ_le hk))

theorem Run.config_eq {n : Nat} {σ : Nat → State} (hrun : Run n σ) :
    ∀ k, k ≤ n → (σ k).config = (σ 0).config :=
  hrun.induct (P := fun _ s => s.config = (σ 0).config) rfl
    fun _ _ hstep ih => (step_config hstep).trans ih

theorem Run.inv {n : Nat} {σ : Nat → State} (hrun : Run n σ) (h : Inv (σ 0)) :
    ∀ k, k ≤ n → Inv (σ k) :=
  hrun.induct (P := fun _ s => Inv s) h fun _ _ hstep ih => stepKeepsInvariant _ _ ih hstep

/-- A counter that runs through `0, …, m - 1` over and over. -/
theorem succ_mod_eq_ite {m : Nat} (hm : 0 < m) (k : Nat) :
    (k + 1) % m = if k % m = m - 1 then 0 else k % m + 1 := by
  have hlt := Nat.mod_lt k hm
  rw [← Nat.mod_add_mod]
  split
  case isTrue h => rw [h, Nat.sub_add_cancel hm, Nat.mod_self]
  case isFalse h => exact Nat.mod_eq_of_lt (by omega)

/-- How often something happens in the first `n + 1` ticks. -/
theorem countP_range_succ (f : Nat → Bool) (n : Nat) :
    (List.range (n + 1)).countP f = (List.range n).countP f + (f n).toNat := by
  rw [List.range_succ, List.countP_append, List.countP_singleton]
  cases f n <;> rfl

end Sys2Proof.Machine
end

section
/-! PROOFS. The detector: the wire `error` bit by bit (R111), its other operations (R112, R116 to R118,
R120), and what it does over a run (R121 to R124). -/

namespace Sys2Proof.Machine

/-! ## The wire `error` (R111) -/

theorem patMask_getLsbD_eq_true_iff {p : Pattern} {adr b : Nat} (hb : b < 32) :
    (patMask p adr).getLsbD b = true ↔ ¬ (p.hasCfg = true ∧ adr = 1 ∧ 8 ≤ b ∧ b < 16) := by
  rw [patMask_getLsbD p adr b hb, Bool.not_eq_true', ← Bool.not_eq_true]
  simp only [Bool.and_eq_true, beq_iff_eq, decide_eq_true_eq, and_assoc]

/-- Two words agree under the mask exactly when they agree on every bit outside the hole. -/
theorem and_patMask_eq_iff {p : Pattern} {adr : Nat} {v w : Data} :
    v &&& patMask p adr = w &&& patMask p adr ↔
      ∀ b, b < 32 → ¬ (p.hasCfg = true ∧ adr = 1 ∧ 8 ≤ b ∧ b < 16) → v.getLsbD b = w.getLsbD b := by
  constructor
  · intro h b hb hhole
    have hbit := congrArg (fun x : Data => x.getLsbD b) h
    simpa only [BitVec.getLsbD_and, (patMask_getLsbD_eq_true_iff hb).mpr hhole, Bool.and_true]
      using hbit
  · intro h
    refine BitVec.eq_of_getLsbD_eq fun b hb => ?_
    rw [BitVec.getLsbD_and, BitVec.getLsbD_and]
    by_cases hhole : p.hasCfg = true ∧ adr = 1 ∧ 8 ≤ b ∧ b < 16
    · have hmask : (patMask p adr).getLsbD b = false := by
        rw [← Bool.not_eq_true, patMask_getLsbD_eq_true_iff hb]
        exact not_not_intro hhole
      rw [hmask, Bool.and_false, Bool.and_false]
    · rw [h b hb hhole]

theorem and_patMask_ne_iff {p : Pattern} {adr : Nat} {v w : Data} :
    v &&& patMask p adr ≠ w &&& patMask p adr ↔
      ∃ b, b < 32 ∧ ¬ (p.hasCfg = true ∧ adr = 1 ∧ 8 ≤ b ∧ b < 16) ∧
        v.getLsbD b ≠ w.getLsbD b := by
  rw [ne_eq, and_patMask_eq_iff]
  push Not
  rfl

theorem ne_expCtrl_iff {c : Config} {p : Pattern} {adr : Nat} {x : Ctrl} : x ≠ expCtrl c p adr ↔
    (adr = 0 ∧ x ≠ (c.table p).firstCtrl) ∨ (adr ≠ 0 ∧ x ≠ 0) := by
  unfold expCtrl
  split_ifs with hadr <;> simp [hadr]

theorem errorWire_eq_true_iff {s : State} {p : Pattern} : s.errorWire p = true ↔
    s.inputs.sinkValid = true ∧ (s.inputs.sinkCtrl ≠ expCtrl s.config p (s.det p).adr ∨
      s.inputs.sinkData &&& patMask p (s.det p).adr ≠
        patRead s.config p (s.det p).adr &&& patMask p (s.det p).adr) := by
  simp only [State.errorWire, errorOf, State.patWires, State.readerPattern, State.readerAdr,
    Bool.and_eq_true, Bool.or_eq_true, bne_iff_ne]

/-- Settles O17: the marker is compared on all its bits and the data on the bits of the mask. -/
theorem errorWireComparesBits : Obligations.ErrorWireComparesBits := by
  intro p s w hw
  rw [errorWire_eq_true_iff, ne_expCtrl_iff, patRead_of_getElem? hw, and_patMask_ne_iff, or_assoc]

/-! ## When the operations are selected (R81, R82) -/

theorem detOp_eq_detReset_iff {p : Pattern} {rst valid error sat : Bool} :
    detOp p rst valid error sat = .detReset p ↔ rst = true := by
  unfold detOp
  split_ifs <;> simp_all

theorem detOp_eq_detHold_iff {p : Pattern} {rst valid error sat : Bool} :
    detOp p rst valid error sat = .detHold p ↔ rst = false ∧ valid = false := by
  unfold detOp
  split_ifs <;> simp_all

theorem detOp_eq_detMismatch_iff {p : Pattern} {rst valid error sat : Bool} :
    detOp p rst valid error sat = .detMismatch p ↔ rst = false ∧ valid = true ∧ error = true := by
  unfold detOp
  split_ifs <;> simp_all

theorem detlOp_eq_detlReset_iff {p : Pattern} {rst latchEn : Bool} :
    detlOp p rst latchEn = .detlReset p ↔ rst = true := by
  unfold detlOp
  split_ifs <;> simp_all

theorem detlOp_eq_detlLatch_iff {p : Pattern} {rst latchEn : Bool} :
    detlOp p rst latchEn = .detlLatch p ↔ rst = false ∧ latchEn = true := by
  unfold detlOp
  split_ifs <;> simp_all

theorem latchEn_eq_true_iff {s : State} {p : Pattern} {error : Bool} :
    s.latchEn p error = true ↔
      s.inputs.sinkValid = true ∧ (s.det p).adr = 1 ∧ error = false := by
  simp only [State.latchEn, Bool.and_eq_true, beq_iff_eq, Bool.not_eq_true', and_assoc]

theorem selected_detlLatch_iff {p : Pattern} (h : p.hasCfg = true) (s : State) :
    s.selected (.detl p) = .ok (.detlLatch p) ↔
      s.inputs.rst = false ∧ s.inputs.sinkValid = true ∧ (s.det p).adr = 1 ∧
        s.errorWire p = false := by
  rw [selected_detl s p h, Except.ok.injEq, detlOp_eq_detlLatch_iff, latchEn_eq_true_iff]

/-! ## The operations -/

theorem setDet_setDet (s : State) (p : Pattern) (d e : Detector) :
    (s.setDet p d).setDet p e = s.setDet p e := by cases p <;> rfl

/-- A detector at count 0 has detected nothing, a repetition being two symbols or more. -/
theorem detected_setDet_zero {s : State} {p : Pattern} (hm : 2 ≤ s.config.mDet p) :
    (s.setDet p { adr := 0, count := 0 }).detected p = false := by
  rw [detected_eq_false_iff, det_setDet_same, config_setDet]
  exact (Nat.sub_pos_of_lt hm).ne

theorem detlFrame_setLatches (s : State) (p : Pattern) (l : LinkConfig) :
    DetlFrame p s (s.setLatches p l) := by
  have hconfig := config_setLatches s p l
  refine ⟨?surroundings, wires_setLatches s p l, fun q => det_setLatches s p q l,
    fun q hq => latches_setLatches_ne s p q l hq, emt_setLatches s p l, repCnt_setLatches s p l,
    osc_setLatches s p l⟩
  exact ⟨hconfig, sameTables_of_config_eq hconfig, inputs_setLatches s p l, pending_setLatches s p l,
    tick_setLatches s p l⟩

theorem writeLatches_of_hasCfg {p : Pattern} (h : p.hasCfg = true) (l : LinkConfig) (s : State) :
    writeLatches p l s = .next (s.setLatches p l) := by
  rw [writeLatches, if_pos h]

theorem flags_setLatches {p : Pattern} (h : p.hasCfg = true) (s : State) (l : LinkConfig) :
    (s.setLatches p l).resetO p = some l.reset ∧ (s.setLatches p l).loopbackO p = some l.loopback ∧
      (s.setLatches p l).scramblingO p = some l.scrambling :=
  flags_of_latches (latches_setLatches_same s p l h)

/-- Settles O18: without a symbol nothing is assigned. -/
theorem detHoldKeepsEverything : Obligations.DetHoldKeepsEverything := by
  intro p s
  refine ⟨?_, rfl⟩
  rw [selected_det, Except.ok.injEq, detOp_eq_detHold_iff]

/-- Settles O21: the recovery writes the reset registers, and writing them twice is writing them once. -/
theorem detMismatchRestarts : Obligations.DetMismatchRestarts := by
  intro p s
  refine ⟨?selected, s.setDet p { adr := 0, count := 0 }, rfl, ?adr, ?count, detected_setDet_zero,
    detFrame_setDet s p _, ?again⟩
  case selected => rw [selected_det, Except.ok.injEq, detOp_eq_detMismatch_iff]
  case adr => rw [det_setDet_same]
  case count => rw [det_setDet_same]
  case again => exact congrArg Host.Outcome.next (setDet_setDet s p _ _)

/-- Settles O22: `rst` goes before every other bit of the vector. -/
theorem detResetClears : Obligations.DetResetClears := by
  intro p s
  refine ⟨?selected, s.setDet p { adr := 0, count := 0 }, rfl, ?adr, ?count, detected_setDet_zero,
    detFrame_setDet s p _⟩
  case selected => rw [selected_det, Except.ok.injEq, detOp_eq_detReset_iff]
  case adr => rw [det_setDet_same]
  case count => rw [det_setDet_same]

/-- Settles O23: a config word that latches is a valid symbol without error, which matches. -/
theorem detlLatchTakesReceivedFlags : Obligations.DetlLatchTakesReceivedFlags := by
  intro p s h
  refine ⟨selected_detlLatch_iff h s, fun hlatch => ?accompanied,
    s.setLatches p (receivedConfig s.inputs.sinkData), writeLatches_of_hasCfg h _ s, ?flags⟩
  case accompanied =>
    obtain ⟨hrst, hvalid, -, herror⟩ := (selected_detlLatch_iff h s).mp hlatch
    by_cases hcount : (s.det p).count = s.config.mDet p - 1
    · exact .inr ((selected_detMatchSat_iff s p).mpr ⟨hrst, hvalid, herror, hcount⟩)
    · exact .inl ((selected_detMatch_iff s p).mpr ⟨hrst, hvalid, herror, hcount⟩)
  case flags =>
    obtain ⟨hreset, hloopback, hscrambling⟩ := flags_setLatches h s (receivedConfig s.inputs.sinkData)
    exact ⟨hreset, hloopback, hscrambling, detlFrame_setLatches s p _⟩

/-- Settles O25: the cleared latches are written where the group exists. -/
theorem detlResetClearsLatches : Obligations.DetlResetClearsLatches := by
  intro p s h
  obtain ⟨hreset, hloopback, hscrambling⟩ := flags_setLatches h s LinkConfig.cleared
  refine ⟨?selected, s.setLatches p LinkConfig.cleared, writeLatches_of_hasCfg h _ s, hreset,
    hloopback, hscrambling, detlFrame_setLatches s p _⟩
  rw [selected_detl s p h, Except.ok.injEq, detlOp_eq_detlReset_iff]

/-- Settles O26: the decoder and the three meanings test `HAS_CFG`, which FRAMING has not. -/
theorem detlIsAbsentForFraming : Obligations.DetlIsAbsentForFraming :=
  fun _ _ => ⟨rfl, rfl, rfl, rfl, rfl, rfl, rfl⟩

/-! ## Over a tick and over a run (R121 to R124) -/

/-- Settles O28: a match keeps the counter at `M-1`, and both ways of clearing leave 0. -/
theorem detectedClearsOnlyByMismatchOrReset : Obligations.DetectedClearsOnlyByMismatchOrReset := by
  intro s t p hinv hstep hdetected
  have hm := two_le_mDet hinv.config_ok p
  rw [detected_eq_true_iff] at hdetected
  rw [detected_eq_false_iff, step_config hstep, det_of_step hstep p]
  obtain ⟨hclear, hnext⟩ | ⟨hrst, herror, ⟨-, hnext⟩ | ⟨-, hnext⟩⟩ :=
    detectorNext_cases s p (hinv.detectorOk p).count_lt
  · rw [hnext]
    exact iff_of_true (by simp only; omega) hclear
  · rw [hnext]
    exact iff_of_false (not_not_intro hdetected) (by simp [hrst, herror])
  · rw [hnext]
    exact iff_of_false (by simp only; omega) (by simp [hrst, herror])

/-- Settles O29: the wrong bit raises `error` (O17), on which the detector restarts and keeps its
latches. -/
theorem oneWrongBitRestarts : Obligations.OneWrongBitRestarts := by
  intro s p w b hinv hstall hrst hvalid hw hb hhole hbit
  have herror : s.errorWire p = true :=
    (errorWireComparesBits p s w hw).mpr ⟨hvalid, .inr (.inr ⟨b, hb, hhole, hbit⟩)⟩
  obtain ⟨t, ht⟩ := exists_step hinv.config_ok hinv.in_range hstall
  have hlatches : latchesNext s p = id := funext fun l => latchesNext_of_errorWire l hrst herror
  refine ⟨t, ht, ?adr, ?count, ?latches⟩
  case adr => rw [det_of_step ht p, detectorNext_of_errorWire herror]
  case count => rw [det_of_step ht p, detectorNext_of_errorWire herror]
  case latches => rw [latches_of_step ht p, hlatches, Option.map_id, id]

/-- The number of valid symbols in the ticks before tick `k`. -/
def symbolsBefore (σ : Nat → State) (k : Nat) : Nat :=
  (List.range k).countP fun j => (σ j).inputs.sinkValid

theorem symbolsBefore_succ (σ : Nat → State) (k : Nat) :
    symbolsBefore σ (k + 1) = symbolsBefore σ k + (σ k).inputs.sinkValid.toNat :=
  countP_range_succ _ k

/-- A detector's registers after `v` symbols without error from reset. -/
def afterSymbols (c : Config) (p : Pattern) (v : Nat) : Detector :=
  { adr := v % c.depth p, count := min v (c.mDet p - 1) }

theorem detectorNext_afterSymbols {s : State} {p : Pattern} {v : Nat}
    (hc : s.config.wellFormed = true) (hdet : s.det p = afterSymbols s.config p v)
    (hrst : s.inputs.rst = false) (herror : s.errorWire p = false) :
    detectorNext s p = afterSymbols s.config p (v + s.inputs.sinkValid.toNat) := by
  have hm := two_le_mDet hc p
  cases hvalid : s.inputs.sinkValid with
  | false => exact (detectorNext_of_not_valid hrst hvalid).trans hdet
  | true =>
    have hcount : (s.det p).count < s.config.mDet p := by
      rw [hdet, afterSymbols]
      simp only
      omega
    have hmin : min (min v (s.config.mDet p - 1) + 1) (s.config.mDet p - 1) =
        min (v + 1) (s.config.mDet p - 1) := by omega
    rw [detectorNext_of_match hrst hvalid herror hcount, hdet]
    simp only [afterSymbols, Nat.mod_add_mod, hmin, Bool.toNat_true]

theorem Run.det_eq_afterSymbols {n : Nat} {σ : Nat → State} {p : Pattern} (hrun : Run n σ)
    (hzero : (σ 0).det p = { adr := 0, count := 0 })
    (hlines : ∀ k, k < n → (σ k).inputs.rst = false ∧ (σ k).errorWire p = false) :
    ∀ k, k ≤ n → (σ k).det p = afterSymbols (σ 0).config p (symbolsBefore σ k) := by
  refine hrun.induct (P := fun k s => s.det p = afterSymbols (σ 0).config p (symbolsBefore σ k))
    ?zero fun k hk hstep ih => ?succ
  case zero => rw [hzero, afterSymbols]; simp [symbolsBefore]
  case succ =>
    obtain ⟨hrst, herror⟩ := hlines k hk
    rw [← hrun.config_eq k hk.le] at ih ⊢
    rw [det_of_step hstep p, symbolsBefore_succ]
    exact detectorNext_afterSymbols (wellFormed_of_step hstep) ih hrst herror

/-- Settles O27, by induction on the tick: a gap holds the detector, a symbol advances it. -/
theorem detectorCountsErrorFreeSymbols : Obligations.DetectorCountsErrorFreeSymbols := by
  intro n σ p hrun _ hzero hlines v
  have hdet : (σ n).det p = afterSymbols (σ 0).config p v :=
    hrun.det_eq_afterSymbols hzero hlines n le_rfl
  refine ⟨by rw [hdet, afterSymbols], by rw [hdet, afterSymbols], ?detected⟩
  rw [detected_eq_true_iff, hrun.config_eq n le_rfl, hdet, afterSymbols]
  exact min_eq_right_iff

end Sys2Proof.Machine
end

section
/-! PROOFS. The emitter: what it offers (R131 to R133), its other operations (R138 to R141), and the
emissions of a run (R142, R144). -/

namespace Sys2Proof.Machine

/-! ## What the emitter offers (R131 to R133) -/

theorem sourceValid_eq_true_iff {s : State} :
    s.sourceValid = true ↔ s.inputs.send = true ∨ s.emt.count ≠ s.config.mEmit - 1 := by
  rw [State.sourceValid, Bool.or_eq_true, Bool.not_eq_true', emtDone_eq_false_iff]

theorem xfer_eq_true_iff {s : State} :
    s.xfer = true ↔ s.sourceValid = true ∧ s.inputs.sourceReady = true := by
  rw [State.xfer, Bool.and_eq_true]

theorem sourceCtrl_eq (s : State) :
    s.sourceCtrl = expCtrl s.config s.config.emitPattern s.emt.adr := rfl

theorem sourceData_eq (s : State) : s.sourceData =
    if s.config.emitPattern.hasCfg = true ∧ s.emt.adr = 1 then
      substituteByte1 (patRead s.config s.config.emitPattern s.emt.adr) (linkConfig s.inputs)
    else patRead s.config s.config.emitPattern s.emt.adr := by
  simp only [State.sourceData, State.patWires, State.readerPattern, State.readerAdr,
    Bool.and_eq_true, beq_iff_eq]

/-- The config byte stands in the hole of the config word, and the table's word outside it. -/
theorem sourceData_getLsbD (s : State) {b : Nat} (hb : b < 32) : s.sourceData.getLsbD b =
    if s.config.emitPattern.hasCfg = true ∧ s.emt.adr = 1 ∧ 8 ≤ b ∧ b < 16 then
      (linkConfig s.inputs).getLsbD (b - 8)
    else (patRead s.config s.config.emitPattern s.emt.adr).getLsbD b := by
  rw [sourceData_eq]
  by_cases hcfg : s.config.emitPattern.hasCfg = true ∧ s.emt.adr = 1
  · rw [if_pos hcfg, substituteByte1_getLsbD _ _ b hb]
    simp only [hcfg.1, hcfg.2, true_and]
  · rw [if_neg hcfg, if_neg fun h => hcfg ⟨h.1, h.2.1⟩]

/-- The config byte at its place in the config word, bits 15 to 8. -/
theorem linkConfig_getLsbD_sub (inp : Inputs) {b : Nat} (hb : 8 ≤ b) :
    (linkConfig inp).getLsbD (b - 8) =
      if b = 8 then inp.resetI else if b = 10 then inp.loopbackI
      else if b = 11 then !inp.scramblingI else false := by
  have h8 : b - 8 = 0 ↔ b = 8 := by omega
  have h10 : b - 8 = 2 ↔ b = 10 := by omega
  have h11 : b - 8 = 3 ↔ b = 11 := by omega
  simp only [linkConfig_getLsbD, h8, h10, h11]

/-- Settles O30: each output from its definition, the data bit by bit. -/
theorem emitterDrivesConfigBits : Obligations.EmitterDrivesConfigBits := by
  intro s
  refine ⟨emtDone_eq_true_iff, sourceValid_eq_true_iff, xfer_eq_true_iff, fun hadr => ?first,
    fun hadr => ?other, fun w b hw hb => ?data⟩
  case first => exact if_pos hadr
  case other => exact if_neg hadr
  case data =>
    have hbits : s.emitterOutputs.sourceData.getLsbD b = _ := sourceData_getLsbD s hb
    rw [hbits, patRead_of_getElem? hw]
    by_cases hhole : s.config.emitPattern.hasCfg = true ∧ s.emt.adr = 1 ∧ 8 ≤ b ∧ b < 16
    · rw [if_pos hhole, if_pos hhole, linkConfig_getLsbD_sub s.inputs hhole.2.2.1]
    · rw [if_neg hhole, if_neg hhole]

/-! ## When the operations are selected (R83) -/

theorem emtOp_eq_emtReset_iff {rst done send ready : Bool} :
    emtOp rst done send ready = .emtReset ↔ rst = true := by
  unfold emtOp
  split_ifs <;> simp_all

theorem emtOp_eq_emtStart_iff {rst done send ready : Bool} :
    emtOp rst done send ready = .emtStart ↔
      rst = false ∧ done = true ∧ send = true ∧ ready = true := by
  unfold emtOp
  split_ifs <;> simp_all

theorem emtOp_eq_emtRun_iff {rst done send ready : Bool} :
    emtOp rst done send ready = .emtRun ↔ rst = false ∧ done = false ∧ ready = true := by
  unfold emtOp
  split_ifs <;> simp_all

theorem emtOp_eq_emtStallStart_iff {rst done send ready : Bool} :
    emtOp rst done send ready = .emtStallStart ↔
      rst = false ∧ done = true ∧ send = true ∧ ready = false := by
  unfold emtOp
  split_ifs <;> simp_all

theorem emtOp_eq_emtStallRun_iff {rst done send ready : Bool} :
    emtOp rst done send ready = .emtStallRun ↔ rst = false ∧ done = false ∧ ready = false := by
  unfold emtOp
  split_ifs <;> simp_all

theorem selected_emtStart_iff (s : State) :
    s.selected .emt = .ok .emtStart ↔
      s.inputs.rst = false ∧ s.emtDone = true ∧ s.inputs.send = true ∧
        s.inputs.sourceReady = true := by
  rw [selected_emt, Except.ok.injEq, emtOp_eq_emtStart_iff]

theorem selected_emtRun_iff (s : State) :
    s.selected .emt = .ok .emtRun ↔
      s.inputs.rst = false ∧ s.emtDone = false ∧ s.inputs.sourceReady = true := by
  rw [selected_emt, Except.ok.injEq, emtOp_eq_emtRun_iff]

/-! ## The operations -/

/-- `done` after a write of the emitter's registers (R131). -/
theorem emtDone_withEmt_iff {s : State} {e : Emitter} :
    State.emtDone { s with emt := e } = true ↔ e.count = s.config.mEmit - 1 := emtDone_eq_true_iff

/-- Settles O32: an emission of two symbols or more is not done after its first. -/
theorem emtStartBeginsEmission : Obligations.EmtStartBeginsEmission := by
  intro s
  refine ⟨selected_emtStart_iff s, fun hstart => ?xfer, { s with emt := startedEmitter s.emtNextAdr },
    rfl, rfl, rfl, rfl, fun hm => ?done, emtFrame_withEmt s _⟩
  case xfer =>
    obtain ⟨-, -, hsend, hready⟩ := (selected_emtStart_iff s).mp hstart
    exact xfer_eq_true_iff.mpr ⟨sourceValid_eq_true_iff.mpr (.inl hsend), hready⟩
  case done =>
    rw [← Bool.not_eq_true, emtDone_withEmt_iff]
    exact (Nat.sub_pos_of_lt hm).ne

/-- Settles O33: `done` rises at the next tick exactly when `count + 1 = M - 1`. -/
theorem emtRunAdvances : Obligations.EmtRunAdvances := by
  intro s
  refine ⟨selected_emtRun_iff s, fun hselected => ?xfer, { s with emt := s.emtCounted s.emtNextAdr },
    rfl, rfl, rfl, rfl, ?done, emtFrame_withEmt s _⟩
  case xfer =>
    obtain ⟨-, hdone, hready⟩ := (selected_emtRun_iff s).mp hselected
    exact xfer_eq_true_iff.mpr
      ⟨sourceValid_eq_true_iff.mpr (.inr (emtDone_eq_false_iff.mp hdone)), hready⟩
  case done =>
    have hrises : s.emt.count + 1 = s.config.mEmit - 1 ↔ s.emt.count + 2 = s.config.mEmit := by omega
    exact emtDone_withEmt_iff.trans hrises

/-- What a stalled symbol answers under each policy (R140). -/
theorem stallEmitter_of_refuse {s : State} (h : s.config.stallPolicy = .refuse) (e : Emitter) :
    stallEmitter e s = .refused .emitterStalled := by simp only [stallEmitter, h]

theorem stallEmitter_of_hold {s : State} (h : s.config.stallPolicy = .hold) (e : Emitter) :
    stallEmitter e s = .next s := by simp only [stallEmitter, h]

theorem stallEmitter_of_restart {s : State} (h : s.config.stallPolicy = .restart) (e : Emitter) :
    stallEmitter e s = .next { s with emt := e } := by simp only [stallEmitter, h]

/-- Settles O34: the two stalled operations differ only in the registers `restart` begins again with. -/
theorem emitterStallFollowsPolicy : Obligations.EmitterStallFollowsPolicy := by
  intro s
  refine ⟨?start, ?run, fun h => ?refuse, fun h => ?hold, fun h => ?restart⟩
  case start => rw [selected_emt, Except.ok.injEq, emtOp_eq_emtStallStart_iff]
  case run => rw [selected_emt, Except.ok.injEq, emtOp_eq_emtStallRun_iff]
  case refuse => exact ⟨stallEmitter_of_refuse h _, stallEmitter_of_refuse h _⟩
  case hold => exact ⟨stallEmitter_of_hold h _, stallEmitter_of_hold h _⟩
  case restart =>
    exact ⟨⟨_, stallEmitter_of_restart h _, rfl, rfl, rfl, emtFrame_withEmt s _⟩,
      ⟨_, stallEmitter_of_restart h _, rfl, rfl, rfl, emtFrame_withEmt s _⟩⟩

/-- Settles O35: the reset value of `count` is `M-1`. -/
theorem emtResetLeavesDone : Obligations.EmtResetLeavesDone := by
  intro s
  refine ⟨?selected, { s with emt := Emitter.reset s.config.mEmit }, rfl, rfl, rfl, rfl,
    emtDone_withEmt_iff.mpr rfl, emtFrame_withEmt s _⟩
  rw [selected_emt, Except.ok.injEq, emtOp_eq_emtReset_iff]

/-! ## Emissions without a pause (R142, R144) -/

/-- The emitter at the start of tick `k` of emissions that follow one another without a pause, the first
symbol at tick 0: its cursor and count, and `run` once a symbol is sent. -/
structure EmissionAt (c : Config) (k : Nat) (e : Emitter) : Prop where
  adr : e.adr = k % c.emitDepth
  count : e.count = if k % c.mEmit = 0 then c.mEmit - 1 else k % c.mEmit - 1
  run : 0 < k → e.run = true

theorem EmissionAt.emtDone_iff {s : State} {k : Nat} (hc : s.config.wellFormed = true)
    (h : EmissionAt s.config k s.emt) : s.emtDone = true ↔ k % s.config.mEmit = 0 := by
  have hm := two_le_mEmit hc
  have hlt := Nat.mod_lt k (Nat.lt_of_lt_of_le Nat.zero_lt_two hm)
  rw [emtDone_eq_true_iff, h.count]
  split_ifs with hzero
  · exact iff_of_true rfl hzero
  · exact iff_of_false (by omega) hzero

/-- One tick of it: a symbol is accepted, and where an emission is done, `send` starts the next. -/
theorem emissionAt_next {s : State} {k : Nat} (hc : s.config.wellFormed = true)
    (h : EmissionAt s.config k s.emt) (hrst : s.inputs.rst = false)
    (hready : s.inputs.sourceReady = true)
    (hsend : k % s.config.mEmit = 0 → s.inputs.send = true) {e : Emitter}
    (he : emitterNext s = some e) : EmissionAt s.config (k + 1) e := by
  have hm := two_le_mEmit hc
  have hlt := Nat.mod_lt k (Nat.lt_of_lt_of_le Nat.zero_lt_two hm)
  have hsucc := succ_mod_eq_ite (Nat.lt_of_lt_of_le Nat.zero_lt_two hm) k
  have hadr : s.emtNextAdr = (k + 1) % s.config.emitDepth := by
    rw [State.emtNextAdr, wrapIncr, h.adr, Nat.mod_add_mod]
  have hcount := h.count
  cases hdone : s.emtDone with
  | true =>
    have hzero := (h.emtDone_iff hc).mp hdone
    rw [emitterNext_of_start hrst hready hdone (hsend hzero)] at he
    cases he
    refine ⟨hadr, ?_, fun _ => rfl⟩
    have hone : (k + 1) % s.config.mEmit = 1 := by split_ifs at hsucc <;> omega
    rw [hone]
    rfl
  | false =>
    have hne : k % s.config.mEmit ≠ 0 := fun hzero => by
      rw [(h.emtDone_iff hc).mpr hzero] at hdone
      cases hdone
    rw [emitterNext_of_run hrst hready hdone] at he
    cases he
    refine ⟨hadr, ?_, fun _ => h.run ?_⟩
    · rw [if_neg hne] at hcount
      simp only [State.emtCounted]
      split_ifs at hsucc ⊢ <;> omega
    · exact Nat.pos_of_ne_zero fun hk => hne (by rw [hk, Nat.zero_mod])

theorem emissionAt_zero {s : State} (hadr : s.emt.adr = 0) (hdone : s.emtDone = true) :
    EmissionAt s.config 0 s.emt where
  adr := hadr.trans (Nat.zero_mod _).symm
  count := by rw [if_pos (Nat.zero_mod _), emtDone_eq_true_iff.mp hdone]
  run h := absurd h (lt_irrefl 0)

theorem Run.emissionAt {n : Nat} {σ : Nat → State} (hrun : Run n σ) (hadr : (σ 0).emt.adr = 0)
    (hdone : (σ 0).emtDone = true)
    (hlines : ∀ k, k < n → (σ k).inputs.rst = false ∧ (σ k).inputs.sourceReady = true)
    (hsend : ∀ k, k < n → k % (σ 0).config.mEmit = 0 → (σ k).inputs.send = true) :
    ∀ k, k ≤ n → EmissionAt (σ k).config k (σ k).emt := by
  refine hrun.induct (P := fun k s => EmissionAt s.config k s.emt) (emissionAt_zero hadr hdone)
    fun k hk hstep ih => ?_
  obtain ⟨hrst, hready⟩ := hlines k hk
  rw [step_config hstep]
  refine emissionAt_next (wellFormed_of_step hstep) ih hrst hready ?_ (emitterNext_of_step hstep)
  rw [hrun.config_eq k hk.le]
  exact hsend k hk

/-- Settles O36: the emission is at its tick `k` throughout, and only its first tick needs `send`. -/
theorem oneStartSendsWholeRepetitions : Obligations.OneStartSendsWholeRepetitions := by
  intro σ hrun hc hadr hdone hsend hlines c
  have hm : 2 ≤ c.mEmit := two_le_mEmit hc
  have hfirst : ∀ k, k < c.mEmit → k % c.mEmit = 0 → k = 0 := fun k hk hzero => by
    rwa [Nat.mod_eq_of_lt hk] at hzero
  have hat := hrun.emissionAt hadr hdone hlines fun k hk hzero => hfirst k hk hzero ▸ hsend
  have hconfig : ∀ k, k ≤ c.mEmit → (σ k).config = c := hrun.config_eq
  have hdoneIff : ∀ k, k ≤ c.mEmit → ((σ k).emtDone = true ↔ k % c.mEmit = 0) := fun k hk => by
    rw [(hat k hk).emtDone_iff (by rw [hconfig k hk]; exact hc), hconfig k hk]
  have hnotDone : ∀ k, 0 < k → k < c.mEmit → (σ k).emtDone = false := fun k hpos hk => by
    rw [← Bool.not_eq_true, hdoneIff k hk.le]
    exact fun hzero => hpos.ne' (hfirst k hk hzero)
  have hadrAt : ∀ k, k ≤ c.mEmit → (σ k).emt.adr = k % c.emitDepth := fun k hk => by
    rw [(hat k hk).adr, hconfig k hk]
  refine ⟨fun k hk => ⟨?xfer, hadrAt k hk.le, ?ctrl, ?data⟩, hnotDone, ?done, ?adr, ?run⟩
  case xfer =>
    refine xfer_eq_true_iff.mpr ⟨sourceValid_eq_true_iff.mpr ?_, (hlines k hk).2⟩
    rcases Nat.eq_zero_or_pos k with rfl | hpos
    · exact .inl hsend
    · exact .inr (emtDone_eq_false_iff.mp (hnotDone k hpos hk))
  case ctrl => rw [sourceCtrl_eq, hadrAt k hk.le, hconfig k hk.le]
  case data =>
    rw [sourceData_eq, hadrAt k hk.le, hconfig k hk.le]
    split_ifs with hcfg
    · rw [hcfg.2]
    · rfl
  case done => exact (hdoneIff c.mEmit le_rfl).mpr (Nat.mod_self _)
  case adr => exact (hadrAt c.mEmit le_rfl).trans (mEmit_mod_emitDepth c)
  case run => exact (hat c.mEmit le_rfl).run (Nat.lt_of_lt_of_le Nat.zero_lt_two hm)

/-- Settles O37: with `send` held the emissions follow one another, one each `M` ticks. -/
theorem continuousSendNeverPauses : Obligations.ContinuousSendNeverPauses := by
  intro n σ hrun hc hadr hdone hlines
  have hat := hrun.emissionAt hadr hdone (fun k hk => ⟨(hlines k hk).1, (hlines k hk).2.2⟩)
    fun k hk _ => (hlines k hk).2.1
  have hdoneIff : ∀ k, k ≤ n → ((σ k).emtDone = true ↔ k % (σ 0).config.mEmit = 0) := fun k hk => by
    rw [(hat k hk).emtDone_iff (by rw [hrun.config_eq k hk]; exact hc), hrun.config_eq k hk]
  refine ⟨fun k hk => ⟨?adr, hdoneIff k hk⟩, fun k hk => ?offered⟩
  case adr => rw [(hat k hk).adr, hrun.config_eq k hk]
  case offered =>
    obtain ⟨hrst, hsend, hready⟩ := hlines k hk
    refine ⟨sourceValid_eq_true_iff.mpr (.inl hsend), ?_⟩
    rw [selected_emtStart_iff, ← hdoneIff k hk.le]
    exact ⟨fun h => h.2.1, fun h => ⟨hrst, h, hsend, hready⟩⟩

end Sys2Proof.Machine
end

section
/-! PROOFS. An emitter looped into a detector of its pattern (S4, S6): while the two cursors agree no
symbol is an error (R111), so the two advance together, and the config word carries the flags (R147). -/

namespace Sys2Proof.Machine

theorem inputs_looped (s : State) : s.looped.inputs =
    { s.inputs with sinkValid := s.sourceValid, sinkData := s.sourceData, sinkCtrl := s.sourceCtrl,
                    sourceReady := true } := rfl

section Looped
variable {s : State} (h : s.inputs = s.looped.inputs)
include h

theorem sinkValid_of_looped : s.inputs.sinkValid = s.sourceValid := by
  rw [h, inputs_looped]

theorem sinkData_of_looped : s.inputs.sinkData = s.sourceData := by
  rw [h, inputs_looped]

theorem sinkCtrl_of_looped : s.inputs.sinkCtrl = s.sourceCtrl := by
  rw [h, inputs_looped]

theorem sourceReady_of_looped : s.inputs.sourceReady = true := by
  rw [h, inputs_looped]

/-- At the same index the emitter's symbol is the one the detector expects: the config byte stands in
the hole of the mask. -/
theorem errorWire_of_looped (hadr : (s.det s.config.emitPattern).adr = s.emt.adr) :
    s.errorWire s.config.emitPattern = false := by
  have hctrl : s.sourceCtrl = expCtrl s.config s.config.emitPattern s.emt.adr := sourceCtrl_eq s
  have hdata : s.sourceData &&& patMask s.config.emitPattern s.emt.adr =
      patRead s.config s.config.emitPattern s.emt.adr &&& patMask s.config.emitPattern s.emt.adr :=
    and_patMask_eq_iff.mpr fun b hb hhole => by rw [sourceData_getLsbD s hb, if_neg hhole]
  rw [← Bool.not_eq_true, errorWire_eq_true_iff, sinkCtrl_of_looped h, sinkData_of_looped h, hadr,
    hctrl, hdata]
  simp

/-- A looped symbol advances the detector and the emitter is accepted, so both cursors go on. -/
theorem detectorNext_of_looped (hrst : s.inputs.rst = false) (hvalid : s.sourceValid = true)
    (hadr : (s.det s.config.emitPattern).adr = s.emt.adr)
    (hcount : (s.det s.config.emitPattern).count < s.config.mDet s.config.emitPattern) :
    detectorNext s s.config.emitPattern =
      { adr := s.emtNextAdr
        count := min ((s.det s.config.emitPattern).count + 1)
          (s.config.mDet s.config.emitPattern - 1) } := by
  rw [detectorNext_of_match hrst ((sinkValid_of_looped h).trans hvalid) (errorWire_of_looped h hadr)
    hcount, hadr]
  rfl

end Looped

/-- The flags received from a config word are the ones its config byte was made from. -/
theorem receivedConfig_substituteByte1 (w : Data) (inp : Inputs) :
    receivedConfig (substituteByte1 w (linkConfig inp)) =
      { reset := inp.resetI, loopback := inp.loopbackI, scrambling := inp.scramblingI } := by
  simp only [receivedConfig, substituteByte1_getLsbD _ _ 8 (by decide),
    substituteByte1_getLsbD _ _ 10 (by decide), substituteByte1_getLsbD _ _ 11 (by decide),
    linkConfig_getLsbD]
  simp

/-- Settles O38: the looped config word is no error, so the detector latches what the emitter sent. -/
theorem configWordRoundTrip : Obligations.ConfigWordRoundTrip := by
  intro s hc hr hloop hrst hvalid hcfg hemt hdet
  have hready := sourceReady_of_looped hloop
  obtain ⟨t, ht⟩ := exists_step hc hr (by simp [State.stalled, hready])
  obtain ⟨l, hl⟩ := exists_latches hcfg s
  have herror := errorWire_of_looped hloop (hdet.trans hemt.symm)
  have hlatches : t.latches s.config.emitPattern = some (receivedConfig s.sourceData) := by
    rw [latches_of_step ht, hl, Option.map_some, latchesNext_of_configWord l hrst
      ((sinkValid_of_looped hloop).trans hvalid) herror hdet, sinkData_of_looped hloop]
  rw [sourceData_eq, if_pos ⟨hcfg, hemt⟩, receivedConfig_substituteByte1] at hlatches
  exact ⟨t, ht, flags_of_latches hlatches⟩

/-- Tick `k` of a looped run started at tick 0: the cursors agree, the detector has counted a symbol a
tick up to `M-1`, and the emitter is inside its first emission or past it. -/
structure LoopAt (k : Nat) (s : State) : Prop where
  cursors : (s.det s.config.emitPattern).adr = s.emt.adr
  counted : (s.det s.config.emitPattern).count = min k (s.config.mEmit - 1)
  aligned : s.emt.adr = (s.emt.count + 1) % s.config.emitDepth
  first_emission : k < s.config.mEmit → s.emt.count = if k = 0 then s.config.mEmit - 1 else k - 1

/-- An accepted symbol, by EMT.START or EMT.RUN: the cursor advances, stays aligned with the count, and
the symbol is counted. -/
theorem emitterNext_of_accepted {s : State} (hc : s.config.wellFormed = true)
    (haligned : s.emt.adr = (s.emt.count + 1) % s.config.emitDepth) (hrst : s.inputs.rst = false)
    (hready : s.inputs.sourceReady = true) (hvalid : s.sourceValid = true) {e : Emitter}
    (he : emitterNext s = some e) :
    e.adr = s.emtNextAdr ∧ e.adr = (e.count + 1) % s.config.emitDepth ∧
      e.count = if s.emt.count = s.config.mEmit - 1 then 0 else s.emt.count + 1 := by
  cases hdone : s.emtDone with
  | true =>
    have hcount := emtDone_eq_true_iff.mp hdone
    rw [hcount, ← done_aligned hc] at haligned
    have hsend : s.inputs.send = true :=
      (sourceValid_eq_true_iff.mp hvalid).resolve_right (not_not_intro hcount)
    rw [emitterNext_of_start hrst hready hdone hsend] at he
    cases he
    exact ⟨rfl, by simp only [startedEmitter, State.emtNextAdr, wrapIncr, haligned],
      (if_pos hcount).symm⟩
  | false =>
    rw [emitterNext_of_run hrst hready hdone] at he
    cases he
    exact ⟨rfl, by simp only [State.emtCounted, State.emtNextAdr, wrapIncr, haligned, Nat.mod_add_mod],
      (if_neg (emtDone_eq_false_iff.mp hdone)).symm⟩

/-- A tick that offers a symbol. -/
theorem loopAt_next_of_valid {s t : State} {k : Nat} (hstep : step s = .next t) (h : LoopAt k s)
    (hm : s.config.mDet s.config.emitPattern = s.config.mEmit) (hloop : s.inputs = s.looped.inputs)
    (hrst : s.inputs.rst = false) (hvalid : s.sourceValid = true) : LoopAt (k + 1) t := by
  have hc := wellFormed_of_step hstep
  have hconfig := step_config hstep
  have hm2 := two_le_mEmit hc
  have hcounted := h.counted
  have hfirst := h.first_emission
  obtain ⟨hadr, haligned, hcount⟩ := emitterNext_of_accepted hc h.aligned hrst
    (sourceReady_of_looped hloop) hvalid (emitterNext_of_step hstep)
  have hdet : t.det s.config.emitPattern = { adr := s.emtNextAdr
                                             count := min (k + 1) (s.config.mEmit - 1) } := by
    rw [det_of_step hstep, detectorNext_of_looped hloop hrst hvalid h.cursors (by omega), hcounted, hm]
    congr 1
    omega
  constructor
  · rw [hconfig, hdet, hadr]
  · rw [hconfig, hdet]
  · rw [hconfig, haligned]
  · rw [hconfig, if_neg (Nat.succ_ne_zero k)]
    intro hk
    split_ifs at hfirst hcount <;> omega

/-- A tick without a symbol comes after the first emission: the detector holds and the emitter idles at
word 0. -/
theorem loopAt_next_of_not_valid {s t : State} {k : Nat} (hstep : step s = .next t) (h : LoopAt k s)
    (hloop : s.inputs = s.looped.inputs) (hrst : s.inputs.rst = false)
    (hvalid : s.sourceValid = false) (hlate : s.config.mEmit ≤ k) : LoopAt (k + 1) t := by
  have hc := wellFormed_of_step hstep
  have hconfig := step_config hstep
  obtain ⟨hsend, hdone⟩ := sourceValid_eq_false_iff.mp hvalid
  have hcount := emtDone_eq_true_iff.mp hdone
  have hadr := h.aligned
  rw [hcount, ← done_aligned hc] at hadr
  have hemt : t.emt = { s.emt with adr := 0, run := false } :=
    Option.some.inj ((emitterNext_of_step hstep).symm.trans (emitterNext_of_idle hrst hdone hsend))
  have hdet : t.det s.config.emitPattern = s.det s.config.emitPattern :=
    (det_of_step hstep _).trans
      (detectorNext_of_not_valid hrst ((sinkValid_of_looped hloop).trans hvalid))
  have hcounted := h.counted
  constructor
  · rw [hconfig, hdet, hemt, h.cursors, hadr]
  · rw [hconfig, hdet, hcounted]
    omega
  · rw [hconfig, hemt]
    simp only [hcount, ← done_aligned hc]
  · rw [hconfig]
    intro hk
    omega

/-- Settles O39: emitter and detector advance together, a symbol a tick through the first emission, and
then nothing clears the detector. -/
theorem loopedEmitterIsDetected : Obligations.LoopedEmitterIsDetected := by
  intro n σ hrun c hm hdet hadr hdone hsend hlines hc
  have hzero : LoopAt 0 (σ 0) := by
    have hcount := emtDone_eq_true_iff.mp hdone
    refine ⟨by rw [hdet, hadr], by rw [hdet, Nat.zero_min], ?_, fun _ => by rw [hcount, if_pos rfl]⟩
    rw [hadr, hcount, ← done_aligned hc]
  have hat : ∀ k, k ≤ n → LoopAt k (σ k) := by
    refine hrun.induct (P := LoopAt) hzero fun k hk hstep ih => ?_
    obtain ⟨hrst, hloop⟩ := hlines k hk
    have hconfig : (σ k).config = c := hrun.config_eq k hk.le
    cases hvalid : (σ k).sourceValid with
    | true => exact loopAt_next_of_valid hstep ih (by rw [hconfig]; exact hm) hloop hrst hvalid
    | false =>
      refine loopAt_next_of_not_valid hstep ih hloop hrst hvalid (Nat.le_of_not_lt fun hlt => ?_)
      obtain ⟨hlow, hdoneK⟩ := sourceValid_eq_false_iff.mp hvalid
      have hcount := ih.first_emission hlt
      rw [emtDone_eq_true_iff.mp hdoneK] at hcount
      split_ifs at hcount with hk0
      · rw [hk0, hsend] at hlow
        cases hlow
      · omega
  intro k hk
  have hcounted := (hat k hk).counted
  have hconfig : (σ k).config = c := hrun.config_eq k hk
  rw [hconfig] at hcounted
  rw [detected_eq_true_iff, hconfig, hcounted, hm]
  exact min_eq_right_iff

end Sys2Proof.Machine
end

section
/-! PROOFS. The oscillators, one tick: the operations of the groups OSC and WAVE (R153 to R161), when
they are selected and what they leave unchanged. -/

namespace Sys2Proof.Machine

/-! ## The outputs (R151) -/

theorem txIdle_eq_true_iff {s : State} {o : OscId} :
    s.txIdle o = true ↔ (s.osc o).busy = false := by
  rw [State.txIdle, Bool.not_eq_true']

theorem txIdle_eq_false_iff {s : State} {o : OscId} :
    s.txIdle o = false ↔ (s.osc o).busy = true := by
  rw [State.txIdle, Bool.not_eq_false']

theorem txPattern_eq_true_iff {s : State} {o : OscId} :
    s.txPattern o = true ↔ (s.osc o).busy = true ∧ (s.osc o).level = true := by
  rw [State.txPattern, Bool.and_eq_true]

/-- On an active tick the output is the wave. -/
theorem txPattern_of_busy {s : State} {o : OscId} (h : (s.osc o).busy = true) :
    s.txPattern o = (s.osc o).level := by
  rw [State.txPattern, h, Bool.true_and]

/-! ## When the operations are selected (R84, R85) -/

theorem oscOp_eq_oscReset_iff {o : OscId} {rst busy last start lenz : Bool} :
    oscOp o rst busy last start lenz = .oscReset o ↔ rst = true := by
  unfold oscOp
  split_ifs <;> simp_all

theorem oscOp_eq_oscIdle_iff {o : OscId} {rst busy last start lenz : Bool} :
    oscOp o rst busy last start lenz = .oscIdle o ↔ rst = false ∧ busy = false ∧ start = false := by
  unfold oscOp
  split_ifs <;> simp_all

theorem oscOp_eq_oscStart_iff {o : OscId} {rst busy last start lenz : Bool} :
    oscOp o rst busy last start lenz = .oscStart o ↔
      rst = false ∧ busy = false ∧ start = true ∧ lenz = false := by
  unfold oscOp
  split_ifs <;> simp_all

theorem oscOp_eq_oscStartZero_iff {o : OscId} {rst busy last start lenz : Bool} :
    oscOp o rst busy last start lenz = .oscStartZero o ↔
      rst = false ∧ busy = false ∧ start = true ∧ lenz = true := by
  unfold oscOp
  split_ifs <;> simp_all

theorem oscOp_eq_oscRun_iff {o : OscId} {rst busy last start lenz : Bool} :
    oscOp o rst busy last start lenz = .oscRun o ↔ rst = false ∧ busy = true ∧ last = false := by
  unfold oscOp
  split_ifs <;> simp_all

theorem oscOp_eq_oscLast_iff {o : OscId} {rst busy last start lenz : Bool} :
    oscOp o rst busy last start lenz = .oscLast o ↔ rst = false ∧ busy = true ∧ last = true := by
  unfold oscOp
  split_ifs <;> simp_all

theorem waveOp_eq_waveReset_iff {o : OscId} {rst wrap : Bool} :
    waveOp o rst wrap = .waveReset o ↔ rst = true := by
  unfold waveOp
  split_ifs <;> simp_all

theorem waveOp_eq_waveCount_iff {o : OscId} {rst wrap : Bool} :
    waveOp o rst wrap = .waveCount o ↔ rst = false ∧ wrap = false := by
  unfold waveOp
  split_ifs <;> simp_all

theorem waveOp_eq_waveToggle_iff {o : OscId} {rst wrap : Bool} :
    waveOp o rst wrap = .waveToggle o ↔ rst = false ∧ wrap = true := by
  unfold waveOp
  split_ifs <;> simp_all

theorem selected_oscReset_iff (s : State) (o : OscId) :
    s.selected (.osc o) = .ok (.oscReset o) ↔ s.oscRst o = true := by
  rw [selected_osc, Except.ok.injEq, oscOp_eq_oscReset_iff]

theorem selected_oscStart_iff (s : State) (o : OscId) :
    s.selected (.osc o) = .ok (.oscStart o) ↔
      s.oscRst o = false ∧ (s.osc o).busy = false ∧ s.oscStart o = true ∧ s.oscLength o ≠ 0 := by
  rw [selected_osc, Except.ok.injEq, oscOp_eq_oscStart_iff, beq_eq_false_iff_ne]

theorem selected_oscStartZero_iff (s : State) (o : OscId) :
    s.selected (.osc o) = .ok (.oscStartZero o) ↔
      s.oscRst o = false ∧ (s.osc o).busy = false ∧ s.oscStart o = true ∧ s.oscLength o = 0 := by
  rw [selected_osc, Except.ok.injEq, oscOp_eq_oscStartZero_iff, beq_iff_eq]

theorem selected_oscRun_iff (s : State) (o : OscId) :
    s.selected (.osc o) = .ok (.oscRun o) ↔
      s.oscRst o = false ∧ (s.osc o).busy = true ∧ (s.osc o).remaining ≠ 1 := by
  rw [selected_osc, Except.ok.injEq, oscOp_eq_oscRun_iff, beq_eq_false_iff_ne]

theorem selected_oscLast_iff (s : State) (o : OscId) :
    s.selected (.osc o) = .ok (.oscLast o) ↔
      s.oscRst o = false ∧ (s.osc o).busy = true ∧ (s.osc o).remaining = 1 := by
  rw [selected_osc, Except.ok.injEq, oscOp_eq_oscLast_iff, beq_iff_eq]

theorem selected_waveReset_iff (s : State) (o : OscId) :
    s.selected (.wave o) = .ok (.waveReset o) ↔ s.oscRst o = true := by
  rw [selected_wave, Except.ok.injEq, waveOp_eq_waveReset_iff]

/-! ## A write of one oscillator's registers -/

theorem sameSurroundings_setOsc (s : State) (o : OscId) (x : Oscillator) :
    SameSurroundings s (s.setOsc o x) :=
  ⟨config_setOsc s o x, sameTables_of_config_eq (config_setOsc s o x), inputs_setOsc s o x,
    pending_setOsc s o x, tick_setOsc s o x⟩

theorem oscFrame_setOsc {s : State} {o : OscId} {x : Oscillator}
    (hhalf : x.halfCnt = (s.osc o).halfCnt) (hlevel : x.level = (s.osc o).level) :
    OscFrame o s (s.setOsc o x) := by
  refine ⟨sameSurroundings_setOsc s o x, wires_setOsc s o x, det_setOsc s o x, latches_setOsc s o x,
    emt_setOsc s o x, repCnt_setOsc s o x, fun q hq => osc_setOsc_ne s o q x hq, ?_⟩
  rw [osc_setOsc_same]
  exact ⟨hhalf, hlevel⟩

theorem waveFrame_setOsc {s : State} {o : OscId} {x : Oscillator}
    (hbusy : x.busy = (s.osc o).busy) (hremaining : x.remaining = (s.osc o).remaining)
    (hdone : x.doneQ = (s.osc o).doneQ) : WaveFrame o s (s.setOsc o x) := by
  refine ⟨sameSurroundings_setOsc s o x, wires_setOsc s o x, det_setOsc s o x, latches_setOsc s o x,
    emt_setOsc s o x, repCnt_setOsc s o x, fun q hq => osc_setOsc_ne s o q x hq, ?_⟩
  rw [osc_setOsc_same]
  exact ⟨hbusy, hremaining, hdone⟩

/-! ## The operations -/

/-- Settles O40: only `done_q` is written. -/
theorem oscIdleEndsDonePulse : Obligations.OscIdleEndsDonePulse := by
  intro o s
  refine ⟨?selected, s.setOsc o { s.osc o with doneQ := false }, rfl, ?registers⟩
  case selected => rw [selected_osc, Except.ok.injEq, oscOp_eq_oscIdle_iff]
  case registers =>
    rw [osc_setOsc_same]
    exact ⟨rfl, rfl, rfl, oscFrame_setOsc rfl rfl⟩

/-- Settles O41: the length loaded is the port of the oscillator that stands alone, the constant `L` of
the sequencer's. -/
theorem oscStartAcceptsBurst : Obligations.OscStartAcceptsBurst := by
  intro o s
  refine ⟨selected_oscStart_iff s o,
    s.setOsc o { s.osc o with busy := true, remaining := s.oscLength o, doneQ := false }, rfl, ?_⟩
  rw [txIdle_eq_false_iff, osc_setOsc_same]
  refine ⟨rfl, fun hbare => ?bare, fun hseq => ?sequencer, rfl, rfl, oscFrame_setOsc rfl rfl⟩
  case bare => rw [hbare]; rfl
  case sequencer => rw [hseq]; rfl

/-- Settles O42: only `done_q` is written. -/
theorem oscZeroLengthStartIsDoneAtOnce : Obligations.OscZeroLengthStartIsDoneAtOnce := by
  intro o s
  refine ⟨selected_oscStartZero_iff s o, s.setOsc o { s.osc o with doneQ := true }, rfl, ?_⟩
  rw [osc_setOsc_same]
  exact ⟨rfl, rfl, rfl, oscFrame_setOsc rfl rfl⟩

/-- Settles O43: the guarded decrement, and the guard. -/
theorem oscRunCountsDown : Obligations.OscRunCountsDown := by
  intro o s
  refine ⟨selected_oscRun_iff s o, fun hne => ?counts, fun hzero => if_pos hzero⟩
  refine ⟨s.setOsc o { s.osc o with remaining := (s.osc o).remaining - 1, doneQ := false },
    if_neg hne, ?_⟩
  rw [osc_setOsc_same]
  exact ⟨toNat_remaining_sub_one hne, rfl, rfl, oscFrame_setOsc rfl rfl⟩

/-- Settles O44: the last active tick leaves an idle oscillator with its `done` pulse. -/
theorem oscLastEndsBurst : Obligations.OscLastEndsBurst := by
  intro o s
  refine ⟨selected_oscLast_iff s o,
    s.setOsc o { s.osc o with busy := false, remaining := 0, doneQ := true }, rfl, ?_⟩
  rw [txIdle_eq_true_iff, State.oscDone, osc_setOsc_same]
  exact ⟨rfl, rfl, rfl, rfl, rfl, oscFrame_setOsc rfl rfl⟩

/-- Settles O45: OSC.RESET and WAVE.RESET are selected by the same `rst`, and each clears its own
registers. -/
theorem oscAndWaveResetClear : Obligations.OscAndWaveResetClear := by
  intro o s
  refine ⟨selected_oscReset_iff s o, selected_waveReset_iff s o, ?osc, ?wave⟩
  case osc =>
    refine ⟨s.setOsc o { s.osc o with busy := false, remaining := 0, doneQ := false }, rfl, ?_⟩
    rw [txIdle_eq_true_iff, State.txPattern, osc_setOsc_same]
    exact ⟨rfl, rfl, rfl, rfl, rfl, oscFrame_setOsc rfl rfl⟩
  case wave =>
    refine ⟨s.setOsc o { s.osc o with halfCnt := 0, level := false }, rfl, ?_⟩
    rw [osc_setOsc_same]
    exact ⟨rfl, rfl, waveFrame_setOsc rfl rfl rfl⟩

/-- Settles O46: neither the vector of WAVE nor its operations read `busy`. -/
theorem waveCountsAndToggles : Obligations.WaveCountsAndToggles := by
  intro o s
  refine ⟨?selectedCount, ?selectedToggle, ?count, ?toggle⟩
  case selectedCount =>
    rw [selected_wave, Except.ok.injEq, waveOp_eq_waveCount_iff, beq_eq_false_iff_ne]
  case selectedToggle => rw [selected_wave, Except.ok.injEq, waveOp_eq_waveToggle_iff, beq_iff_eq]
  case count =>
    refine ⟨s.setOsc o { s.osc o with halfCnt := (s.osc o).halfCnt + 1 }, rfl, ?_⟩
    rw [osc_setOsc_same]
    exact ⟨rfl, rfl, waveFrame_setOsc rfl rfl rfl⟩
  case toggle =>
    refine ⟨s.setOsc o { s.osc o with halfCnt := 0, level := !(s.osc o).level }, rfl, ?_⟩
    rw [osc_setOsc_same]
    exact ⟨rfl, rfl, waveFrame_setOsc rfl rfl rfl⟩

end Sys2Proof.Machine
end

section
/-! PROOFS. The free-running wave (R152) and what it makes of the ticks of a burst (R163): its phase is
one number `u`, with `half_cnt = u mod HALF` and `level = floor(u / HALF) mod 2`. -/

namespace Sys2Proof.Machine

/-! ## The phase of the wave -/

theorem succ_div_eq_ite {m : Nat} (hm : 0 < m) (u : Nat) :
    (u + 1) / m = if u % m = m - 1 then u / m + 1 else u / m := by
  have hdvd : m ∣ u + 1 ↔ u % m = m - 1 := by
    rw [Nat.dvd_iff_mod_eq_zero, succ_mod_eq_ite hm]
    split_ifs with h <;> simp [h]
  rw [Nat.succ_div]
  simp only [hdvd]
  split_ifs <;> rfl

/-- The level of the wave `u` ticks after its phase 0. -/
def waveLevel (half u : Nat) : Bool := decide (u / half % 2 = 1)

/-- The wave goes to the other level exactly at the end of a half period. -/
theorem waveLevel_succ {half : Nat} (hhalf : 0 < half) (u : Nat) :
    waveLevel half (u + 1) =
      if u % half = half - 1 then !waveLevel half u else waveLevel half u := by
  rw [waveLevel, waveLevel, succ_div_eq_ite hhalf]
  split_ifs
  · rw [← decide_not, decide_eq_decide]
    omega
  · rfl

/-- The oscillator `x` is in phase `u` of the wave of half period `half`. -/
structure WavePhase (half u : Nat) (x : Oscillator) : Prop where
  halfCnt : x.halfCnt = u % half
  level : x.level = waveLevel half u

theorem wavePhase_next {s : State} {o : OscId} {u : Nat} (hhalf : 0 < s.config.half)
    (hrst : s.oscRst o = false) (h : WavePhase s.config.half u (s.osc o)) :
    WavePhase s.config.half (u + 1) (oscillatorNext s o) := by
  obtain ⟨hcnt, hlevel⟩ := oscillatorNext_wave hrst
  rw [h.halfCnt] at hcnt
  rw [h.halfCnt, h.level] at hlevel
  exact ⟨hcnt.trans (succ_mod_eq_ite hhalf u).symm, hlevel.trans (waveLevel_succ hhalf u).symm⟩

theorem Run.wavePhase {n : Nat} {σ : Nat → State} {o : OscId} {u : Nat} (hrun : Run n σ)
    (hzero : WavePhase (σ 0).config.half u ((σ 0).osc o))
    (hrst : ∀ k, k < n → (σ k).oscRst o = false) :
    ∀ k, k ≤ n → WavePhase (σ 0).config.half (u + k) ((σ k).osc o) := by
  refine hrun.induct (P := fun k s => WavePhase (σ 0).config.half (u + k) (s.osc o)) hzero
    fun k hk hstep ih => ?_
  rw [osc_of_step hstep o]
  rw [← hrun.config_eq k hk.le] at ih ⊢
  exact wavePhase_next (half_pos (wellFormed_of_step hstep)) (hrst k hk) ih

/-- Settles O47: the wave starts in phase 0 and its phase goes up by one a tick. -/
theorem waveRunsFreely : Obligations.WaveRunsFreely := by
  intro n σ o hrun hcnt hlevel hrst _
  have hzero : WavePhase (σ 0).config.half 0 ((σ 0).osc o) :=
    ⟨hcnt.trans (Nat.zero_mod _).symm, by rw [hlevel, waveLevel, Nat.zero_div]; rfl⟩
  have hphase := hrun.wavePhase hzero hrst n le_rfl
  rw [Nat.zero_add] at hphase
  refine ⟨hphase.halfCnt, ?_⟩
  rw [hphase.level, waveLevel, decide_eq_true_iff]

/-- Every oscillator in its range is in some phase. -/
theorem exists_wavePhase {half : Nat} {x : Oscillator} (h : x.halfCnt < half) :
    ∃ u, WavePhase half u x := by
  have hdiv : x.halfCnt / half = 0 := Nat.div_eq_of_lt h
  cases hlevel : x.level with
  | false =>
    exact ⟨x.halfCnt, (Nat.mod_eq_of_lt h).symm, by rw [hlevel, waveLevel, hdiv]; rfl⟩
  | true =>
    refine ⟨x.halfCnt + half, ?_, ?_⟩
    · rw [Nat.add_mod_right, Nat.mod_eq_of_lt h]
    · rw [hlevel, waveLevel, Nat.add_div_right _ (Nat.zero_lt_of_lt h), hdiv]
      rfl

/-! ## High ticks and level changes of the wave over `n` ticks from phase `u` -/

/-- By how much the ticks since phase 0 exceed twice the high ones among them: a full low half period is
made up for by the high one that follows. -/
def lowExcess (half u : Nat) : Nat := if waveLevel half u then half - u % half else u % half

theorem lowExcess_le {half : Nat} (hhalf : 0 < half) (u : Nat) : lowExcess half u ≤ half := by
  have hlt := Nat.mod_lt u hhalf
  unfold lowExcess
  split_ifs <;> omega

theorem lowExcess_succ {half : Nat} (hhalf : 0 < half) (u : Nat) :
    2 * (waveLevel half u).toNat + lowExcess half (u + 1) = 1 + lowExcess half u := by
  have hlt := Nat.mod_lt u hhalf
  have hsucc := succ_mod_eq_ite hhalf u
  unfold lowExcess
  rw [waveLevel_succ hhalf u, hsucc]
  by_cases hwrap : u % half = half - 1
  · cases waveLevel half u <;> simp [hwrap] <;> omega
  · cases waveLevel half u <;> simp [hwrap] <;> omega

theorem countP_high {half : Nat} (hhalf : 0 < half) (u n : Nat) :
    2 * (List.range n).countP (fun k => waveLevel half (u + k)) + lowExcess half (u + n) =
      n + lowExcess half u := by
  induction n with
  | zero => simp
  | succ n ih =>
    have hsucc := lowExcess_succ hhalf (u + n)
    rw [countP_range_succ, ← Nat.add_assoc u n 1]
    omega

/-- Each level change begins a half period. -/
theorem countP_changes {half : Nat} (hhalf : 0 < half) (u n : Nat) :
    u / half + (List.range n).countP
      (fun k => waveLevel half (u + k) != waveLevel half (u + (k + 1))) = (u + n) / half := by
  induction n with
  | zero => rfl
  | succ n ih =>
    rw [countP_range_succ, ← Nat.add_assoc (u / half), ih, ← Nat.add_assoc u n 1,
      waveLevel_succ hhalf, succ_div_eq_ite hhalf]
    split_ifs <;> simp

/-- `n` ticks from phase `u` complete the half periods of `n` ticks, or one more. -/
theorem add_div_bounds {half : Nat} (hhalf : 0 < half) (u n : Nat) :
    u / half + n / half ≤ (u + n) / half ∧ (u + n) / half ≤ u / half + n / half + 1 := by
  rw [Nat.add_div hhalf]
  split_ifs <;> omega

/-- Settles O50: on active ticks the output is the wave, whose high ticks and level changes over any `n`
ticks are known from its phase. -/
theorem burstDutyCycleIsBounded : Obligations.BurstDutyCycleIsBounded := by
  intro n σ o hrun hactive half h c
  rcases Nat.eq_zero_or_pos n with rfl | hn
  · simp [h, c]
  have hstep : step (σ 0) = .next (σ (0 + 1)) := hrun 0 hn
  have hhalf : 0 < half := half_pos (wellFormed_of_step hstep)
  obtain ⟨u, hzero⟩ := exists_wavePhase (halfCnt_inRange (inRange_of_step hstep) o)
  have hwave : ∀ k, k < n → (σ k).txPattern o = waveLevel half (u + k) := fun k hk => by
    rw [txPattern_of_busy (txIdle_eq_false_iff.mp (hactive k hk).2)]
    exact (hrun.wavePhase hzero (fun j hj => (hactive j hj).1) k hk.le).level
  have hh : h = (List.range n).countP fun k => waveLevel half (u + k) :=
    List.countP_congr fun k hk => by rw [hwave k (List.mem_range.mp hk)]
  have hc : c = (List.range (n - 1)).countP
      fun k => waveLevel half (u + k) != waveLevel half (u + (k + 1)) :=
    List.countP_congr fun k hk => by
      have hlt := List.mem_range.mp hk
      rw [hwave k (by omega), hwave (k + 1) (by omega)]
  have hhigh := countP_high hhalf u n
  have hchanges := countP_changes hhalf u (n - 1)
  have hbounds := add_div_bounds hhalf u (n - 1)
  have hle := lowExcess_le hhalf u
  have hle' := lowExcess_le hhalf (u + n)
  rw [← hh] at hhigh
  rw [← hc] at hchanges
  omega

end Sys2Proof.Machine
end

section
/-! PROOFS. Bursts over a run: one burst from its start (R162), and bursts with `start` held (R165). -/

namespace Sys2Proof.Machine

/-- `k` ticks after its start, a burst of `n` ticks is in its tick `k`, `1 ≤ k ≤ n`. -/
structure InBurst (n k : Nat) (x : Oscillator) : Prop where
  busy : x.busy = true
  doneQ : x.doneQ = false
  remaining : x.remaining.toNat = n + 1 - k

theorem inBurst_of_start {s : State} {o : OscId} (h : s.selected (.osc o) = .ok (.oscStart o)) :
    InBurst (s.oscLength o).toNat 1 (oscillatorNext s o) := by
  obtain ⟨hrst, hidle, hstart, hlen⟩ := (selected_oscStart_iff s o).mp h
  obtain ⟨hbusy, hremaining, hdone⟩ := oscillatorNext_of_start hrst hidle hstart hlen
  exact ⟨hbusy, hdone, by rw [hremaining, Nat.add_sub_cancel]⟩

theorem InBurst.last_iff {n k : Nat} {x : Oscillator} (h : InBurst n k x) (hk : k ≤ n) :
    x.remaining = 1 ↔ k = n := by
  rw [remaining_eq_one_iff, h.remaining]
  omega

theorem InBurst.next {s : State} {o : OscId} {n k : Nat} (h : InBurst n k (s.osc o)) (hk : k < n)
    (hrst : s.oscRst o = false) : InBurst n (k + 1) (oscillatorNext s o) := by
  have hlast : (s.osc o).remaining ≠ 1 := (h.last_iff hk.le).not.mpr hk.ne
  have hne : (s.osc o).remaining ≠ 0 := by
    rw [ne_eq, remaining_eq_zero_iff, h.remaining]
    omega
  obtain ⟨hbusy, hremaining, hdone⟩ := oscillatorNext_of_run hrst h.busy hlast
  refine ⟨hbusy, hdone, ?_⟩
  rw [hremaining, toNat_remaining_sub_one hne, h.remaining]
  omega

/-- After a tick of an idle oscillator `done` reads 1 exactly by a zero-length start. -/
theorem doneQ_next_of_idle {s : State} {o : OscId} (hidle : (s.osc o).busy = false) :
    (oscillatorNext s o).doneQ = true ↔ s.selected (.osc o) = .ok (.oscStartZero o) := by
  rw [selected_oscStartZero_iff]
  cases hrst : s.oscRst o with
  | true =>
    rw [oscillatorNext_of_rst hrst]
    exact iff_of_false Bool.false_ne_true fun h => nomatch h.1
  | false =>
    cases hstart : s.oscStart o with
    | false =>
      rw [(oscillatorNext_of_idle hrst hidle hstart).2.2]
      exact iff_of_false Bool.false_ne_true fun h => nomatch h.2.2.1
    | true =>
      by_cases hlen : s.oscLength o = 0
      · exact iff_of_true (oscillatorNext_of_startZero hrst hidle hstart hlen).2.2
          ⟨rfl, hidle, rfl, hlen⟩
      · rw [(oscillatorNext_of_start hrst hidle hstart hlen).2.2]
        exact iff_of_false Bool.false_ne_true fun h => hlen h.2.2.2

theorem Run.inBurst {n : Nat} {σ : Nat → State} {o : OscId} (hrun : Run (n + 1) σ)
    (hstart : (σ 0).selected (.osc o) = .ok (.oscStart o)) (hlen : ((σ 0).oscLength o).toNat = n)
    (hrst : ∀ k, k ≤ n → (σ k).oscRst o = false) :
    ∀ k, k ≤ n → 1 ≤ k → InBurst n k ((σ k).osc o) := by
  have hrun' : Run n σ := fun k hk => hrun k (Nat.lt_succ_of_lt hk)
  refine hrun'.induct (P := fun k s => 1 ≤ k → InBurst n k (s.osc o)) (fun h => absurd h (by decide))
    fun k hk hstep ih _ => ?_
  rw [osc_of_step hstep o]
  rcases Nat.eq_zero_or_pos k with rfl | hpos
  · exact hlen ▸ inBurst_of_start hstart
  · exact (ih hpos).next hk (hrst k hk.le)

/-- Settles O48: the burst counts its ticks down from its start, and the wave runs on beneath it. -/
theorem burstHasItsLength : Obligations.BurstHasItsLength := by
  intro n σ o hrun hstart hlen hrst
  obtain ⟨-, hidle, -, hne⟩ := (selected_oscStart_iff _ o).mp hstart
  have hn : 1 ≤ n := Nat.pos_of_ne_zero fun h0 => hne (remaining_eq_zero_iff.mpr (hlen.trans h0))
  have hburst := hrun.inBurst hstart hlen hrst
  have hend := hburst n le_rfl hn
  have hlast := (hend.last_iff le_rfl).mpr rfl
  obtain ⟨hbusy', -, hdone'⟩ := oscillatorNext_of_last (hrst n le_rfl) hend.busy hlast
  rw [← osc_of_step (hrun n (Nat.lt_succ_self n)) o] at hbusy' hdone'
  refine ⟨txIdle_eq_true_iff.mpr hidle, fun k hk1 hkn => ?active,
    (selected_oscLast_iff _ o).mpr ⟨hrst n le_rfl, hend.busy, hlast⟩, txIdle_eq_true_iff.mpr hbusy',
    hdone', fun t hstep => ?pulse, fun u hcnt hlevel k hk1 hkn => ?wave⟩
  case active =>
    have hk := hburst k hkn hk1
    refine ⟨txIdle_eq_false_iff.mpr hk.busy, hk.doneQ, hk.remaining, fun hlt => ?_⟩
    exact (selected_oscRun_iff _ o).mpr ⟨hrst k hkn, hk.busy, (hk.last_iff hkn).not.mpr hlt.ne⟩
  case pulse =>
    rw [State.oscDone, osc_of_step hstep o]
    exact doneQ_next_of_idle hbusy'
  case wave =>
    have hzero : WavePhase (σ 0).config.half u ((σ 0).osc o) :=
      ⟨hcnt, by rw [Bool.eq_iff_iff, hlevel, waveLevel, decide_eq_true_iff]⟩
    have hphase := hrun.wavePhase hzero (fun j hj => hrst j (Nat.le_of_lt_succ hj)) k
      (Nat.le_succ_of_le hkn)
    rw [txPattern_of_busy (hburst k hkn hk1).busy, hphase.level, waveLevel, decide_eq_true_iff]

/-- Tick `k` of bursts of `n` ticks with one idle tick between, the first idle tick at tick 0: an idle
tick, with its `done` pulse from the second one on, or a tick of a burst. -/
structure RepeatAt (n k : Nat) (x : Oscillator) : Prop where
  idle : k % (n + 1) = 0 → x.busy = false ∧ (0 < k → x.doneQ = true)
  active : k % (n + 1) ≠ 0 → InBurst n (k % (n + 1)) x

theorem repeatAt_next {s : State} {n k : Nat} (h : RepeatAt n k (s.osc .bare))
    (hrst : s.inputs.oscRst = false) (hstart : s.inputs.oscStart = true)
    (hn : s.inputs.oscLength.toNat = n) : RepeatAt n (k + 1) (oscillatorNext s .bare) := by
  have hle : k % (n + 1) ≤ n := Nat.le_of_lt_succ (Nat.mod_lt k (Nat.succ_pos n))
  have hsucc := succ_mod_eq_ite (Nat.succ_pos n) k
  rw [Nat.succ_eq_add_one, Nat.add_sub_cancel] at hsucc
  by_cases hzero : k % (n + 1) = 0
  · obtain ⟨hidle, -⟩ := h.idle hzero
    by_cases hlen : s.inputs.oscLength = 0
    · obtain ⟨hbusy, -, hdone⟩ := oscillatorNext_of_startZero (o := .bare) hrst hidle hstart hlen
      rw [hzero, if_pos ((remaining_eq_zero_iff.mp hlen).symm.trans hn)] at hsucc
      exact ⟨fun _ => ⟨hbusy, fun _ => hdone⟩, fun hne => absurd hsucc hne⟩
    · have hpos : 0 ≠ n := fun h0 => hlen (remaining_eq_zero_iff.mpr (hn.trans h0.symm))
      rw [hzero, if_neg hpos] at hsucc
      refine ⟨fun h0 => absurd (hsucc.symm.trans h0) Nat.one_ne_zero, fun _ => ?_⟩
      rw [hsucc, ← hn]
      exact inBurst_of_start ((selected_oscStart_iff s .bare).mpr ⟨hrst, hidle, hstart, hlen⟩)
  · have hburst := h.active hzero
    by_cases hlast : k % (n + 1) = n
    · obtain ⟨hbusy, -, hdone⟩ := oscillatorNext_of_last (o := .bare) hrst hburst.busy
        ((hburst.last_iff hle).mpr hlast)
      rw [if_pos hlast] at hsucc
      exact ⟨fun _ => ⟨hbusy, fun _ => hdone⟩, fun hne => absurd hsucc hne⟩
    · rw [if_neg hlast] at hsucc
      refine ⟨fun h0 => absurd (hsucc.symm.trans h0) (Nat.succ_ne_zero _), fun _ => ?_⟩
      rw [hsucc]
      exact hburst.next (Nat.lt_of_le_of_ne hle hlast) hrst

theorem RepeatAt.busy_iff {n k : Nat} {x : Oscillator} (h : RepeatAt n k x) :
    x.busy = false ↔ k % (n + 1) = 0 := by
  refine ⟨fun hidle => ?_, fun hzero => (h.idle hzero).1⟩
  by_contra hne
  rw [(h.active hne).busy] at hidle
  cases hidle

theorem RepeatAt.doneQ_iff {n k : Nat} {x : Oscillator} (h : RepeatAt n k x) (hk : 0 < k) :
    x.doneQ = true ↔ k % (n + 1) = 0 := by
  refine ⟨fun hdone => ?_, fun hzero => (h.idle hzero).2 hk⟩
  by_contra hne
  rw [(h.active hne).doneQ] at hdone
  cases hdone

/-- Settles O49, by induction on the tick: each idle tick accepts the next start. -/
theorem startHeldRepeatsBursts : Obligations.StartHeldRepeatsBursts := by
  intro n σ len hrun hidle hlines
  have hzero : RepeatAt len.toNat 0 ((σ 0).osc .bare) :=
    ⟨fun _ => ⟨hidle, fun h => absurd h (lt_irrefl 0)⟩, fun hne => absurd (Nat.zero_mod _) hne⟩
  have hat : ∀ k, k ≤ n → RepeatAt len.toNat k ((σ k).osc .bare) := by
    refine hrun.induct (P := fun k s => RepeatAt len.toNat k (s.osc .bare)) hzero
      fun k hk hstep ih => ?_
    obtain ⟨hrst, hstart, hlen⟩ := hlines k hk
    rw [osc_of_step hstep .bare]
    exact repeatAt_next ih hrst hstart (congrArg BitVec.toNat hlen)
  exact fun k hk => ⟨txIdle_eq_true_iff.trans (hat k hk).busy_iff, (hat k hk).doneQ_iff⟩

end Sys2Proof.Machine
end

section
/-! PROOFS. The sequencer: its operations (R172 to R176), the burst that each fire starts (R171, R178),
and continuous polling (R177). -/

namespace Sys2Proof.Machine

/-! ## When the operations are selected (R86) -/

theorem seqOp_eq_seqReset_iff {rst zero polling wrap : Bool} :
    seqOp rst zero polling wrap = .seqReset ↔ rst = true := by
  unfold seqOp
  split_ifs <;> simp_all

theorem seqOp_eq_seqWait_iff {rst zero polling wrap : Bool} :
    seqOp rst zero polling wrap = .seqWait ↔ rst = false ∧ zero = true ∧ polling = false := by
  unfold seqOp
  split_ifs <;> simp_all

theorem seqOp_eq_seqFire_iff {rst zero polling wrap : Bool} :
    seqOp rst zero polling wrap = .seqFire ↔ rst = false ∧ zero = true ∧ polling = true := by
  unfold seqOp
  split_ifs <;> simp_all

theorem seqOp_eq_seqCount_iff {rst zero polling wrap : Bool} :
    seqOp rst zero polling wrap = .seqCount ↔ rst = false ∧ zero = false ∧ wrap = false := by
  unfold seqOp
  split_ifs <;> simp_all

theorem seqOp_eq_seqWrap_iff {rst zero polling wrap : Bool} :
    seqOp rst zero polling wrap = .seqWrap ↔ rst = false ∧ zero = false ∧ wrap = true := by
  unfold seqOp
  split_ifs <;> simp_all

theorem selected_seqWait_iff (s : State) :
    s.selected .seq = .ok .seqWait ↔
      s.inputs.rst = false ∧ s.repCnt = 0 ∧ s.inputs.polling = false := by
  rw [selected_seq, Except.ok.injEq, seqOp_eq_seqWait_iff, beq_iff_eq]

theorem selected_seqFire_iff (s : State) :
    s.selected .seq = .ok .seqFire ↔
      s.inputs.rst = false ∧ s.repCnt = 0 ∧ s.inputs.polling = true := by
  rw [selected_seq, Except.ok.injEq, seqOp_eq_seqFire_iff, beq_iff_eq]

/-! ## The operations -/

theorem seqFrame_withRepCnt (s : State) (n : Nat) : SeqFrame s { s with repCnt := n } :=
  ⟨⟨rfl, sameTables_of_config_eq rfl, rfl, rfl, rfl⟩, wires_withRepCnt s n, det_withRepCnt s n,
    latches_withRepCnt s n, rfl, osc_withRepCnt s n⟩

/-- Settles O51: without `polling` there is no fire, and nothing is assigned. -/
theorem seqWaitKeepsEverything : Obligations.SeqWaitKeepsEverything := by
  intro s
  refine ⟨selected_seqWait_iff s, fun hwait => ?_, rfl⟩
  obtain ⟨-, -, hpolling⟩ := (selected_seqWait_iff s).mp hwait
  rw [State.fire, hpolling, Bool.and_false]

/-- Settles O52: SEQ.FIRE is selected by the two bits that make `fire`. -/
theorem seqFireBeginsPeriod : Obligations.SeqFireBeginsPeriod := by
  intro s
  refine ⟨selected_seqFire_iff s, fun hfire => ?_, { s with repCnt := 1 }, rfl, rfl,
    seqFrame_withRepCnt s 1⟩
  obtain ⟨-, hzero, hpolling⟩ := (selected_seqFire_iff s).mp hfire
  exact fire_eq_true_iff.mpr ⟨hzero, hpolling⟩

/-- Settles O53: inside a period `polling` is a don't-care bit. -/
theorem seqCountsAndWraps : Obligations.SeqCountsAndWraps := by
  intro s
  refine ⟨?selectedCount, ?selectedWrap,
    ⟨{ s with repCnt := s.repCnt + 1 }, rfl, rfl, seqFrame_withRepCnt s _⟩,
    ⟨{ s with repCnt := 0 }, rfl, rfl, seqFrame_withRepCnt s 0⟩⟩
  case selectedCount =>
    rw [selected_seq, Except.ok.injEq, seqOp_eq_seqCount_iff, beq_eq_false_iff_ne, beq_eq_false_iff_ne]
  case selectedWrap =>
    rw [selected_seq, Except.ok.injEq, seqOp_eq_seqWrap_iff, beq_eq_false_iff_ne, beq_iff_eq]

/-- Settles O54: the wrapped oscillator has the sequencer's `rst`. -/
theorem seqResetArms : Obligations.SeqResetArms := by
  intro s
  refine ⟨?selected, fun hrst => ⟨(selected_oscReset_iff s .sequencer).mpr hrst,
    (selected_waveReset_iff s .sequencer).mpr hrst⟩,
    { s with repCnt := 0 }, rfl, rfl, seqFrame_withRepCnt s 0⟩
  rw [selected_seq, Except.ok.injEq, seqOp_eq_seqReset_iff]

/-! ## The burst of a fire (R171, R178) -/

theorem Inv.idle_of_repCnt_zero {s : State} (h : Inv s) (hzero : s.repCnt = 0) :
    (s.osc .sequencer).busy = false :=
  Bool.eq_false_iff.mpr fun hbusy => (h.burst_in_period hbusy).1 hzero

theorem oscLength_sequencer_ne_zero {s : State} (hc : s.config.wellFormed = true) :
    s.oscLength .sequencer ≠ 0 := by
  have hl : (s.oscLength .sequencer).toNat = s.config.burstLength := toNat_burstLength hc
  rw [ne_eq, remaining_eq_zero_iff, hl]
  exact (burstLength_pos hc).ne'

/-- Settles O55: at `rep_cnt = 0` the burst of the period before is over (R178), and `L` is not 0. -/
theorem fireAlwaysStartsABurst : Obligations.FireAlwaysStartsABurst := by
  intro s hinv hrst hfire
  obtain ⟨hzero, hpolling⟩ := fire_eq_true_iff.mp hfire
  exact ⟨(selected_seqFire_iff s).mpr ⟨hrst, hzero, hpolling⟩,
    (selected_oscStart_iff s .sequencer).mpr ⟨hrst, hinv.idle_of_repCnt_zero hzero, hfire,
      oscLength_sequencer_ne_zero hinv.config_ok⟩⟩

/-! ## Continuous polling (R177) -/

/-- Tick `k` of continuous polling from an armed state: `rep_cnt` is the tick of the period, a burst runs
on its ticks 1 to `L`, and its `done` pulse is on the tick after. -/
structure PolledAt (k : Nat) (s : State) : Prop where
  repCnt : s.repCnt = k % s.config.burstPeriod
  busy : (s.osc .sequencer).busy = true ↔
    1 ≤ k % s.config.burstPeriod ∧ k % s.config.burstPeriod ≤ s.config.burstLength
  doneQ : 0 < k → ((s.osc .sequencer).doneQ = true ↔
    k % s.config.burstPeriod = (s.config.burstLength + 1) % s.config.burstPeriod)

theorem repCntNext_of_polling {s : State} (hc : s.config.wellFormed = true)
    (hrst : s.inputs.rst = false) (hpolling : s.inputs.polling = true) :
    repCntNext s = if s.repCnt = s.config.burstPeriod - 1 then 0 else s.repCnt + 1 := by
  by_cases hzero : s.repCnt = 0
  · have hl := burstLength_pos hc
    have hlp := burstLength_lt_burstPeriod hc
    rw [repCntNext_of_fire hrst (fire_eq_true_iff.mpr ⟨hzero, hpolling⟩), hzero, if_neg (by omega)]
  · exact repCntNext_of_ne_zero hrst hzero

/-- The wrapped oscillator in a tick of continuous polling: it is active next when the period begins or
the burst has ticks left, and done next when this is the burst's last tick. -/
theorem oscillatorNext_of_polling {s : State} (hinv : Inv s) (hrst : s.inputs.rst = false)
    (hpolling : s.inputs.polling = true)
    (hbusy : (s.osc .sequencer).busy = true ↔ 1 ≤ s.repCnt ∧ s.repCnt ≤ s.config.burstLength) :
    ((oscillatorNext s .sequencer).busy = true ↔ s.repCnt < s.config.burstLength) ∧
    ((oscillatorNext s .sequencer).doneQ = true ↔ s.repCnt = s.config.burstLength) := by
  have hl := burstLength_pos hinv.config_ok
  cases hb : (s.osc .sequencer).busy with
  | true =>
    obtain ⟨-, hle⟩ := hbusy.mp hb
    obtain ⟨-, hsum⟩ := hinv.burst_in_period hb
    have hlast : (s.osc .sequencer).remaining = 1 ↔ s.repCnt = s.config.burstLength := by
      rw [remaining_eq_one_iff, State.osc]
      omega
    by_cases heq : s.repCnt = s.config.burstLength
    · obtain ⟨hb', -, hd'⟩ := oscillatorNext_of_last (o := .sequencer) hrst hb (hlast.mpr heq)
      rw [hb', hd']
      exact ⟨iff_of_false Bool.false_ne_true heq.not_lt, iff_of_true rfl heq⟩
    · obtain ⟨hb', -, hd'⟩ := oscillatorNext_of_run (o := .sequencer) hrst hb (hlast.not.mpr heq)
      rw [hb', hd']
      exact ⟨iff_of_true rfl (Nat.lt_of_le_of_ne hle heq), iff_of_false Bool.false_ne_true heq⟩
  | false =>
    by_cases hzero : s.repCnt = 0
    · obtain ⟨hb', -, hd'⟩ := oscillatorNext_of_start (o := .sequencer) hrst hb
        (fire_eq_true_iff.mpr ⟨hzero, hpolling⟩) (oscLength_sequencer_ne_zero hinv.config_ok)
      rw [hb', hd', hzero]
      exact ⟨iff_of_true rfl hl, iff_of_false Bool.false_ne_true hl.ne⟩
    · have hfire : s.oscStart .sequencer = false :=
        Bool.eq_false_iff.mpr fun hfire => hzero (fire_eq_true_iff.mp hfire).1
      have hlate : s.config.burstLength < s.repCnt := by
        by_contra hle
        rw [hbusy.mpr ⟨Nat.pos_of_ne_zero hzero, Nat.le_of_not_lt hle⟩] at hb
        cases hb
      obtain ⟨hb', -, hd'⟩ := oscillatorNext_of_idle (o := .sequencer) hrst hb hfire
      rw [hb', hd']
      exact ⟨iff_of_false Bool.false_ne_true hlate.asymm, iff_of_false Bool.false_ne_true hlate.ne'⟩

theorem polledAt_next {s t : State} {k : Nat} (hstep : step s = .next t) (hinv : Inv s)
    (h : PolledAt k s) (hrst : s.inputs.rst = false) (hpolling : s.inputs.polling = true) :
    PolledAt (k + 1) t := by
  have hc := hinv.config_ok
  have hconfig := step_config hstep
  have hl := burstLength_pos hc
  have hlp := burstLength_lt_burstPeriod hc
  have hlt := repCnt_inRange hinv.in_range
  have hpos : 0 < s.config.burstPeriod := Nat.zero_lt_of_lt hlp
  have hsucc := succ_mod_eq_ite hpos k
  have hpulse := succ_mod_eq_ite hpos s.config.burstLength
  rw [Nat.mod_eq_of_lt hlp] at hpulse
  rw [← h.repCnt] at hsucc
  have hbusy := h.busy
  rw [← h.repCnt] at hbusy
  obtain ⟨hbusy', hdone'⟩ := oscillatorNext_of_polling hinv hrst hpolling hbusy
  constructor
  · rw [hconfig, repCnt_of_step hstep, repCntNext_of_polling hc hrst hpolling, hsucc]
  · rw [hconfig, osc_of_step hstep .sequencer, hbusy', hsucc]
    split_ifs <;> omega
  · intro _
    rw [hconfig, osc_of_step hstep .sequencer, hdone', hsucc, hpulse]
    constructor <;> intro heq <;> split_ifs at heq ⊢ <;> omega

theorem polledAt_zero {s : State} (hinv : Inv s) (hzero : s.repCnt = 0) : PolledAt 0 s where
  repCnt := hzero.trans (Nat.zero_mod _).symm
  busy := by
    rw [hinv.idle_of_repCnt_zero hzero, Nat.zero_mod]
    exact iff_of_false Bool.false_ne_true fun h => absurd h.1 (by decide)
  doneQ h := absurd h (lt_irrefl 0)

/-- Settles O56: along the run the tick of the period is `k mod P`, which says when a burst runs. -/
theorem pollingRepeatsBursts : Obligations.PollingRepeatsBursts := by
  intro n σ hrun hinv hzero hlines l p
  have hat : ∀ k, k ≤ n → PolledAt k (σ k) :=
    hrun.induct (P := PolledAt) (polledAt_zero hinv hzero) fun k hk hstep ih =>
      polledAt_next hstep (hrun.inv hinv k hk.le) ih (hlines k hk).1 (hlines k hk).2
  have hconfig : ∀ k, k ≤ n → (σ k).config = (σ 0).config := hrun.config_eq
  refine ⟨fun k hk => ?fire, fun k hk => ⟨?active, fun hpos => ?pulse⟩⟩
  case fire =>
    have hrep := (hat k hk.le).repCnt
    rw [hconfig k hk.le] at hrep
    rw [fire_eq_true_iff, hrep]
    exact and_iff_left (hlines k hk).2
  case active =>
    have hbusy := (hat k hk).busy
    rw [hconfig k hk] at hbusy
    exact txIdle_eq_false_iff.trans hbusy
  case pulse =>
    have hdone := (hat k hk).doneQ hpos
    rwa [hconfig k hk] at hdone

end Sys2Proof.Machine
end

section
/-! PROOFS. The select tables (R80 to R87): each group with a vector decodes by a table whose rows cover
every vector, exclude one another, and are the encodings of the group's operations. -/

namespace Sys2Proof

open Sys2Proof.Machine

/-! ## A group and its table -/

/-- Two rows exclude each other: they differ on a bit that both decode. -/
def SelectRow.Excludes {α : Type} (r r' : SelectRow α) : Prop :=
  r.value &&& r'.mask ≠ r'.value &&& r.mask

/-- Every vector of `width` bits matches a row. -/
def Covers {α : Type} (width : Nat) (rows : List (SelectRow α)) : Prop :=
  ∀ n, n < 2 ^ width → ∃ r ∈ rows, BitVec.ofNat 8 n &&& r.mask = r.value

/-- A row says what `decodedBits` and `encode` say of its operation, which is of group `g`. -/
structure RowAgrees {α : Type} (g : Slot) (a : α) (r : SelectRow α) : Prop where
  slot : (r.op a).slot = g
  wellFormed : (r.op a).wellFormed = true
  decodedBits : (r.op a).decodedBits = r.mask
  encode : encode (r.op a) = [r.value]

/-- Group `g` is decoded by the select table `rows`. -/
structure DecodesBy {α : Type} (g : Slot) (rows : List (SelectRow α)) (a : α) : Prop where
  decode_eq : ∀ bytes, decode g bytes = decodeRows g.width rows a bytes
  agrees : ∀ r ∈ rows, RowAgrees g a r
  /-- Every operation of the group has its row. -/
  complete : ∀ i : Instr, i.slot = g → ∃ r ∈ rows, i = r.op a
  exclusive : rows.Pairwise SelectRow.Excludes
  total : Covers g.width rows

/-- No vector matches two rows that exclude each other. -/
theorem SelectRow.Excludes.not_both {α : Type} {r r' : SelectRow α} (h : r.Excludes r') {v : Byte}
    (hr : v &&& r.mask = r.value) : v &&& r'.mask ≠ r'.value := by
  intro hr'
  refine h ?_
  rw [← hr, ← hr', BitVec.and_assoc, BitVec.and_assoc, BitVec.and_comm r.mask]

theorem exists_row_of_matchRows {α : Type} {rows : List (SelectRow α)} {a : α} {v : Byte} {i : Instr}
    (h : matchRows rows a v = .ok i) : ∃ r ∈ rows, v &&& r.mask = r.value ∧ i = r.op a := by
  induction rows with
  | nil => cases h
  | cons r rest ih =>
    rw [matchRows] at h
    split at h
    case isTrue hr =>
      cases h
      exact ⟨r, List.mem_cons_self, hr, rfl⟩
    case isFalse =>
      obtain ⟨r', hmem, hr', hi⟩ := ih h
      exact ⟨r', List.mem_cons_of_mem r hmem, hr', hi⟩

/-- Where the rows exclude one another, the row that matches is the one decoded by. -/
theorem matchRows_of_row {α : Type} {rows : List (SelectRow α)} {a : α} {v : Byte} {r : SelectRow α}
    (hexclusive : rows.Pairwise SelectRow.Excludes) (hmem : r ∈ rows) (hr : v &&& r.mask = r.value) :
    matchRows rows a v = .ok (r.op a) := by
  induction rows with
  | nil => cases hmem
  | cons r' rest ih =>
    obtain ⟨hhead, hrest⟩ := List.pairwise_cons.mp hexclusive
    rw [matchRows]
    rcases List.mem_cons.mp hmem with rfl | hmem'
    · rw [if_pos hr]
    · rw [if_neg fun hr' => (hhead r hmem').not_both hr' hr]
      exact ih hrest hmem'

section DecodesBy
variable {α : Type} {g : Slot} {rows : List (SelectRow α)} {a : α} (h : DecodesBy g rows a)
include h

/-- What the decoder answers is read off the row that matches. -/
theorem DecodesBy.sound {bytes : List Byte} {i : Instr} (hi : decode g bytes = .ok i) :
    i.slot = g ∧ i.wellFormed = true ∧ bytes.map (fun v => v &&& i.decodedBits) = encode i := by
  rw [h.decode_eq] at hi
  match bytes with
  | [] => cases hi
  | _ :: _ :: _ => cases hi
  | [v] =>
    rw [decodeRows] at hi
    split at hi
    case isFalse => cases hi
    case isTrue =>
      obtain ⟨r, hmem, hr, rfl⟩ := exists_row_of_matchRows hi
      have hrow := h.agrees r hmem
      exact ⟨hrow.slot, hrow.wellFormed,
        by rw [hrow.decodedBits, hrow.encode, List.map_singleton, hr]⟩

/-- A vector that agrees with an operation's encoding on its decoded bits decodes to the operation. -/
theorem DecodesBy.decode_of_encode {v : Byte} {i : Instr} (hv : v.toNat < 2 ^ g.width)
    (hslot : i.slot = g) (hi : encode i = [v &&& i.decodedBits]) : decode g [v] = .ok i := by
  obtain ⟨r, hmem, rfl⟩ := h.complete i hslot
  have hrow := h.agrees r hmem
  rw [hrow.encode, hrow.decodedBits, List.singleton_inj] at hi
  rw [h.decode_eq, decodeRows, if_pos hv]
  exact matchRows_of_row h.exclusive hmem hi.symm

theorem DecodesBy.exists_decode {v : Byte} (hv : v.toNat < 2 ^ g.width) :
    ∃ i, decode g [v] = .ok i := by
  obtain ⟨r, hmem, hr⟩ := h.total v.toNat hv
  rw [BitVec.ofNat_toNat, BitVec.setWidth_eq] at hr
  exact ⟨r.op a, by rw [h.decode_eq, decodeRows, if_pos hv]; exact matchRows_of_row h.exclusive hmem hr⟩

theorem DecodesBy.total_and_exclusive {v : Byte} (hv : v.toNat < 2 ^ g.width) :
    ∃ i, decode g [v] = .ok i ∧
      ∀ j : Instr, (j.slot = g ∧ encode j = [v &&& j.decodedBits]) ↔ j = i := by
  obtain ⟨i, hi⟩ := h.exists_decode hv
  refine ⟨i, hi, fun j => ⟨fun ⟨hslot, hj⟩ => ?_, ?_⟩⟩
  · have hboth := (h.decode_of_encode hv hslot hj).symm.trans hi
    exact Except.ok.inj hboth
  · rintro rfl
    obtain ⟨hslot, -, hbits⟩ := h.sound hi
    exact ⟨hslot, hbits.symm⟩

end DecodesBy

/-! ## The six tables (R81 to R86) -/

theorem detRows_exclusive : detRows.Pairwise SelectRow.Excludes := by
  unfold SelectRow.Excludes
  decide

theorem detRows_cover : Covers 4 detRows := by
  unfold Covers
  decide

theorem decodesBy_det (p : Pattern) : DecodesBy (.det p) detRows p where
  decode_eq _ := rfl
  agrees := by
    simp only [detRows, List.forall_mem_cons, List.not_mem_nil, false_imp_iff, implies_true, and_true]
    exact ⟨⟨rfl, rfl, rfl, rfl⟩, ⟨rfl, rfl, rfl, rfl⟩, ⟨rfl, rfl, rfl, rfl⟩, ⟨rfl, rfl, rfl, rfl⟩,
      ⟨rfl, rfl, rfl, rfl⟩⟩
  complete i hi := by cases i <;> cases hi <;> simp [detRows]
  exclusive := detRows_exclusive
  total := detRows_cover

theorem detlRows_exclusive : detlRows.Pairwise SelectRow.Excludes := by
  unfold SelectRow.Excludes
  decide

theorem detlRows_cover : Covers 2 detlRows := by
  unfold Covers
  decide

theorem decodesBy_detl {p : Pattern} (h : p.hasCfg = true) : DecodesBy (.detl p) detlRows p where
  decode_eq _ := by rw [decode, if_pos h]; rfl
  agrees := by
    simp only [detlRows, List.forall_mem_cons, List.not_mem_nil, false_imp_iff, implies_true, and_true]
    exact ⟨⟨rfl, h, rfl, rfl⟩, ⟨rfl, h, rfl, rfl⟩, ⟨rfl, h, rfl, rfl⟩⟩
  complete i hi := by cases i <;> cases hi <;> simp [detlRows]
  exclusive := detlRows_exclusive
  total := detlRows_cover

theorem emtRows_exclusive : emtRows.Pairwise SelectRow.Excludes := by
  unfold SelectRow.Excludes
  decide

theorem emtRows_cover : Covers 4 emtRows := by
  unfold Covers
  decide

theorem decodesBy_emt : DecodesBy .emt emtRows () where
  decode_eq _ := rfl
  agrees := by
    simp only [emtRows, List.forall_mem_cons, List.not_mem_nil, false_imp_iff, implies_true, and_true]
    exact ⟨⟨rfl, rfl, rfl, rfl⟩, ⟨rfl, rfl, rfl, rfl⟩, ⟨rfl, rfl, rfl, rfl⟩, ⟨rfl, rfl, rfl, rfl⟩,
      ⟨rfl, rfl, rfl, rfl⟩, ⟨rfl, rfl, rfl, rfl⟩⟩
  complete i hi := by cases i <;> cases hi <;> simp [emtRows]
  exclusive := emtRows_exclusive
  total := emtRows_cover

theorem oscRows_exclusive : oscRows.Pairwise SelectRow.Excludes := by
  unfold SelectRow.Excludes
  decide

theorem oscRows_cover : Covers 5 oscRows := by
  unfold Covers
  decide

theorem decodesBy_osc (o : OscId) : DecodesBy (.osc o) oscRows o where
  decode_eq _ := rfl
  agrees := by
    simp only [oscRows, List.forall_mem_cons, List.not_mem_nil, false_imp_iff, implies_true, and_true]
    exact ⟨⟨rfl, rfl, rfl, rfl⟩, ⟨rfl, rfl, rfl, rfl⟩, ⟨rfl, rfl, rfl, rfl⟩, ⟨rfl, rfl, rfl, rfl⟩,
      ⟨rfl, rfl, rfl, rfl⟩, ⟨rfl, rfl, rfl, rfl⟩⟩
  complete i hi := by cases i <;> cases hi <;> simp [oscRows]
  exclusive := oscRows_exclusive
  total := oscRows_cover

theorem waveRows_exclusive : waveRows.Pairwise SelectRow.Excludes := by
  unfold SelectRow.Excludes
  decide

theorem waveRows_cover : Covers 2 waveRows := by
  unfold Covers
  decide

theorem decodesBy_wave (o : OscId) : DecodesBy (.wave o) waveRows o where
  decode_eq _ := rfl
  agrees := by
    simp only [waveRows, List.forall_mem_cons, List.not_mem_nil, false_imp_iff, implies_true, and_true]
    exact ⟨⟨rfl, rfl, rfl, rfl⟩, ⟨rfl, rfl, rfl, rfl⟩, ⟨rfl, rfl, rfl, rfl⟩⟩
  complete i hi := by cases i <;> cases hi <;> simp [waveRows]
  exclusive := waveRows_exclusive
  total := waveRows_cover

theorem seqRows_exclusive : seqRows.Pairwise SelectRow.Excludes := by
  unfold SelectRow.Excludes
  decide

theorem seqRows_cover : Covers 4 seqRows := by
  unfold Covers
  decide

theorem decodesBy_seq : DecodesBy .seq seqRows () where
  decode_eq _ := rfl
  agrees := by
    simp only [seqRows, List.forall_mem_cons, List.not_mem_nil, false_imp_iff, implies_true, and_true]
    exact ⟨⟨rfl, rfl, rfl, rfl⟩, ⟨rfl, rfl, rfl, rfl⟩, ⟨rfl, rfl, rfl, rfl⟩, ⟨rfl, rfl, rfl, rfl⟩,
      ⟨rfl, rfl, rfl, rfl⟩⟩
  complete i hi := by cases i <;> cases hi <;> simp [seqRows]
  exclusive := seqRows_exclusive
  total := seqRows_cover

/-- Every group with a vector decodes by a table, where the component has the group (R82). -/
theorem exists_decodesBy {g : Slot} (habsent : g ≠ .detl .framing) (hwidth : g.width ≠ 0) :
    ∃ (α : Type) (rows : List (SelectRow α)) (a : α), DecodesBy g rows a := by
  cases g with
  | det p => exact ⟨_, _, _, decodesBy_det p⟩
  | detl p =>
    have h : p.hasCfg = true := by
      cases p with
      | framing => exact absurd rfl habsent
      | trainA => rfl
      | trainB => rfl
    exact ⟨_, _, _, decodesBy_detl h⟩
  | emt => exact ⟨_, _, _, decodesBy_emt⟩
  | osc o => exact ⟨_, _, _, decodesBy_osc o⟩
  | wave o => exact ⟨_, _, _, decodesBy_wave o⟩
  | seq => exact ⟨_, _, _, decodesBy_seq⟩
  | patRead | patCtrl | patMask => exact absurd rfl hwidth

/-! ## The statements -/

theorem decodeEmpty_eq_ok_iff {i j : Instr} {bytes : List Byte} :
    decodeEmpty i bytes = .ok j ↔ bytes = [] ∧ j = i := by
  cases bytes <;> simp [decodeEmpty, eq_comm]

/-- Of a group with an empty vector (R87) the decoder gives its one operation, on no bytes. -/
theorem sound_of_width_zero {g : Slot} (hwidth : g.width = 0) {bytes : List Byte} {i : Instr}
    (hi : decode g bytes = .ok i) :
    i.slot = g ∧ i.wellFormed = true ∧ bytes.map (fun v => v &&& i.decodedBits) = encode i := by
  cases g with
  | det | detl | emt | osc | wave | seq => exact absurd hwidth (Nat.succ_ne_zero _)
  | patRead | patCtrl | patMask =>
    obtain ⟨rfl, rfl⟩ := decodeEmpty_eq_ok_iff.mp hi
    exact ⟨rfl, rfl, rfl⟩

theorem decode_encode {i : Instr} (h : i.wellFormed = true) : decode i.slot (encode i) = .ok i := by
  cases i with
  | detlReset p | detlLatch p | detlKeep p =>
    have hcfg : p.hasCfg = true := h
    rw [Instr.slot, decode, if_pos hcfg]
    rfl
  | _ => rfl

/-- Settles O3: an encoding is a vector of its own row; and what decodes matches its row, or the empty
vector. -/
theorem decodeAndEncodeAgree : Obligations.DecodeAndEncodeAgree := by
  refine ⟨fun i => decode_encode, fun g bytes i hi => ?_⟩
  by_cases hwidth : g.width = 0
  · exact sound_of_width_zero hwidth hi
  · have habsent : g ≠ .detl .framing := by
      rintro rfl
      cases hi
    obtain ⟨α, rows, a, htable⟩ := exists_decodesBy habsent hwidth
    exact htable.sound hi

/-- Settles O2: the rows of each table cover every vector and exclude one another. -/
theorem selectTablesTotalAndExclusive : Obligations.SelectTablesTotalAndExclusive := by
  intro g v habsent hwidth hv
  obtain ⟨α, rows, a, htable⟩ := exists_decodesBy habsent hwidth
  exact htable.total_and_exclusive hv

/-- Settles O1: each vector is decoded by its group's table. -/
theorem specSelectVectorsDecode : Obligations.SpecSelectVectorsDecode :=
  ⟨rfl, rfl, rfl, rfl, rfl, rfl, rfl, rfl, rfl, rfl, rfl, rfl, rfl, rfl⟩

end Sys2Proof
end

section
/-! PROOFS. The pattern table (R101 to R103), the outputs (R211, R113 and the rest), and the
configuration: how one is built (R215), the default `HALF` (R77) and the widths of the counters. -/

namespace Sys2Proof.Machine

/-! ## The pattern table (R101 to R103) -/

theorem patFrame_setWires (s : State) (r : Reader) (w : PatWires) : PatFrame r s (s.setWires r w) := by
  have hconfig := config_setWires s r w
  refine ⟨?surroundings, det_setWires s r w, latches_setWires s r w, emt_setWires s r w,
    repCnt_setWires s r w, osc_setWires s r w, fun q hq => wires_setWires_ne s r q w hq⟩
  exact ⟨hconfig, sameTables_of_config_eq hconfig, inputs_setWires s r w, pending_setWires s r w,
    tick_setWires s r w⟩

theorem inTable_eq_true_iff {c : Config} {p : Pattern} {adr : Nat} :
    inTable c p adr = true ↔ adr < c.depth p := by
  rw [inTable, decide_eq_true_iff]

theorem lt_depth_of_word {c : Config} {p : Pattern} {adr : Nat} {w : Data}
    (h : (c.table p).words[adr]? = some w) : adr < c.depth p := by
  obtain ⟨hlt, -⟩ := List.getElem?_eq_some_iff.mp h
  exact hlt

/-- Settles O14: an index with a word is inside the table, where the read drives the word wire. -/
theorem patReadGivesTheWord : Obligations.PatReadGivesTheWord := by
  intro r s
  refine ⟨fun w hw => ?inside, fun hout => ?outside⟩
  case inside =>
    refine ⟨s.setWires r { s.wires r with
        word := patRead s.config (s.readerPattern r) (s.readerAdr r) },
      if_pos (inTable_eq_true_iff.mpr (lt_depth_of_word hw)), ?_⟩
    rw [wires_setWires_same]
    exact ⟨patRead_of_getElem? hw, rfl, rfl, patFrame_setWires s r _⟩
  case outside => exact if_neg fun hin => hout.not_gt (inTable_eq_true_iff.mp hin)

/-- Settles O15: the marker is `exp_ctrl` at the cursor. -/
theorem patCtrlGivesTheMarker : Obligations.PatCtrlGivesTheMarker := by
  intro r s
  refine ⟨⟨s.setWires r { s.wires r with
      ctrl := expCtrl s.config (s.readerPattern r) (s.readerAdr r) }, rfl, ?_⟩,
    fun hc => firstCtrl_ne_zero hc _⟩
  rw [wires_setWires_same]
  exact ⟨fun hzero => if_pos hzero, fun hne => if_neg hne, rfl, rfl, patFrame_setWires s r _⟩

/-- FRAMING is the one pattern without config bits (R6). -/
theorem hasCfg_eq_true_iff {p : Pattern} : p.hasCfg = true ↔ p ≠ .framing := by
  cases p <;> simp [Pattern.hasCfg]

theorem patMask_eq_ite (p : Pattern) (adr : Nat) :
    patMask p adr = if p ≠ .framing ∧ adr = 1 then 0xFFFF00FF else 0xFFFFFFFF := by
  simp only [patMask, cfgMask, Bool.and_eq_true, hasCfg_eq_true_iff, beq_iff_eq]

/-- Settles O16: the two cases of the mask exclude each other. -/
theorem patMaskGivesTheHole : Obligations.PatMaskGivesTheHole := by
  intro r s
  refine ⟨s.setWires r { s.wires r with mask := patMask (s.readerPattern r) (s.readerAdr r) }, rfl, ?_⟩
  rw [wires_setWires_same]
  refine ⟨fun hhole => ?hole, fun hfull => ?full, rfl, rfl, patFrame_setWires s r _⟩
  case hole => exact (patMask_eq_ite _ _).trans (if_pos hhole)
  case full =>
    refine (patMask_eq_ite _ _).trans (if_neg fun hhole => ?_)
    exact hfull.elim hhole.1 fun hne => hne hhole.2

/-! ## The outputs (R113, R131, R151, R171, R211) -/

/-- Settles O11: at tick 0 the registers hold their reset values, and the inputs reach only
`source_valid`. -/
theorem outputsAtTickZero : Obligations.OutputsAtTickZero := by
  intro c inp w hc hw s
  have hadr : s.emt.adr = 0 := rfl
  have hdone : s.emtDone = true := emtDone_eq_true_iff.mpr rfl
  refine ⟨fun p => ⟨?detected, rfl⟩, fun p hp => ?flags, hdone, ?valid, ?data, ?ctrl, fun o => ?burst⟩
  case detected =>
    have hcount : (s.det p).count = 0 := by cases p <;> rfl
    rw [detected_eq_false_iff, hcount]
    exact (Nat.sub_pos_of_lt (two_le_mDet hc p)).ne
  case flags =>
    have hlatches : s.latches p = some LinkConfig.cleared := by
      cases p with
      | framing => cases hp
      | trainA | trainB => rfl
    exact flags_of_latches hlatches
  case valid => rw [State.sourceValid, hdone, Bool.not_true, Bool.or_false]
  case data =>
    rw [sourceData_eq, hadr, if_neg fun h => Nat.zero_ne_one h.2]
    exact patRead_of_getElem? hw
  case ctrl =>
    rw [sourceCtrl_eq, hadr]
    exact if_pos rfl
  case burst => cases o <;> exact ⟨rfl, rfl, rfl⟩

/-- Settles O60: each output is read off its registers; what is a comparison is said as an equation. -/
theorem outputsFollowTheRegisters : Obligations.OutputsFollowTheRegisters := fun _ =>
  ⟨fun _ => ⟨rfl, detected_eq_true_iff⟩, rfl, rfl, rfl, rfl, rfl, rfl, rfl, rfl, rfl, rfl, rfl, rfl, rfl,
    emtDone_eq_true_iff, rfl, rfl,
    fun _ => ⟨txIdle_eq_true_iff, txPattern_eq_true_iff, Iff.rfl⟩⟩

/-! ## Building a machine (R7, R105, R215) -/

theorem patternOfName_eq_some_iff {name : String} {p : Pattern} : patternOfName name = some p ↔
    (name = "FRAMING" ∧ p = .framing) ∨ (name = "TRAIN_A" ∧ p = .trainA) ∨
      (name = "TRAIN_B" ∧ p = .trainB) := by
  unfold patternOfName
  split_ifs with hf ha hb <;> simp_all [eq_comm]

theorem patternOfName_eq_none_iff {name : String} : patternOfName name = none ↔
    name ≠ "FRAMING" ∧ name ≠ "TRAIN_A" ∧ name ≠ "TRAIN_B" := by
  unfold patternOfName
  split_ifs with hf ha hb <;> simp_all

theorem build_of_unknown {q : ConfigRequest} (h : patternOfName q.emitPattern = none) :
    build q = .error .unknownPattern := by
  simp only [build, construct, h]

theorem build_of_known {q : ConfigRequest} {p : Pattern} (h : patternOfName q.emitPattern = some p) :
    build q = if q.ratiosOk = true ∧ (q.toConfig p).wellFormed = true then
      .ok (State.resetWith (q.toConfig p)) else .error .illFormedConfig := by
  simp only [build, construct, h, Bool.and_eq_true]
  split_ifs <;> rfl

/-- What a request with a known pattern name asks for is the configuration made of it. -/
theorem requested_toConfig {q : ConfigRequest} {p : Pattern}
    (h : patternOfName q.emitPattern = some p) : Requested q (q.toConfig p) where
  tables := ⟨rfl, rfl, rfl⟩
  counts := ⟨rfl, rfl, rfl, rfl⟩
  pattern := patternOfName_eq_some_iff.mp h
  half_given n hn := by simp only [ConfigRequest.toConfig, ConfigRequest.halfTicks, hn]
  half_derived f hf := by simp only [ConfigRequest.toConfig, ConfigRequest.halfTicks, hf]
  burst_given l p hb := by
    simp only [ConfigRequest.toConfig, ConfigRequest.lengthTicks, ConfigRequest.periodTicks, hb,
      and_self]
  burst_derived l p hb := by
    simp only [ConfigRequest.toConfig, ConfigRequest.lengthTicks, ConfigRequest.periodTicks, hb,
      and_self]
  policy := rfl

theorem Requested.half_eq {q : ConfigRequest} {c : Config} (h : Requested q c) :
    c.half = q.halfTicks := by
  unfold ConfigRequest.halfTicks
  cases hq : q.half with
  | given n => exact h.half_given n hq
  | fromFrequency f => exact h.half_derived f hq

theorem Requested.burst_eq {q : ConfigRequest} {c : Config} (h : Requested q c) :
    c.burstLength = q.lengthTicks ∧ c.burstPeriod = q.periodTicks := by
  unfold ConfigRequest.lengthTicks ConfigRequest.periodTicks
  cases hq : q.burst with
  | given l p => exact h.burst_given l p hq
  | fromSeconds l p => exact h.burst_derived l p hq

/-- A request asks for one configuration only. -/
theorem Requested.eq_toConfig {q : ConfigRequest} {c : Config} (h : Requested q c) :
    patternOfName q.emitPattern = some c.emitPattern ∧ c = q.toConfig c.emitPattern := by
  refine ⟨patternOfName_eq_some_iff.mpr h.pattern, ?_⟩
  have hhalf := h.half_eq
  obtain ⟨hlength, hperiod⟩ := h.burst_eq
  obtain ⟨hframing, htrainA, htrainB⟩ := h.tables
  obtain ⟨hnFraming, hnTrainA, hnTrainB, hnEmit⟩ := h.counts
  have hpolicy := h.policy
  cases c
  simp only [ConfigRequest.toConfig, Config.mk.injEq]
  exact ⟨hframing, htrainA, htrainB, hnFraming, hnTrainA, hnTrainB, hnEmit, trivial, hhalf, hlength,
    hperiod, hpolicy⟩

theorem build_of_requested {q : ConfigRequest} {c : Config} (h : Requested q c) :
    build q = if q.ratiosOk = true ∧ c.wellFormed = true then .ok (State.resetWith c)
      else .error .illFormedConfig := by
  obtain ⟨hname, hconfig⟩ := h.eq_toConfig
  rw [build_of_known hname, ← hconfig]

/-- Settles O58: a known name leaves one configuration to check, an unknown one none. -/
theorem onlyWellFormedConfigurationsAreBuilt : Obligations.OnlyWellFormedConfigurationsAreBuilt := by
  intro q
  refine ⟨?unknown, fun s hs => ?built,
    fun c hreq => ⟨fun hratios hc => ?accepted, fun hbad => ?refused⟩⟩
  case unknown =>
    rw [← patternOfName_eq_none_iff]
    refine ⟨fun hbuild => ?_, build_of_unknown⟩
    cases hname : patternOfName q.emitPattern with
    | none => rfl
    | some p =>
      rw [build_of_known hname] at hbuild
      split_ifs at hbuild
      cases hbuild
  case built =>
    cases hname : patternOfName q.emitPattern with
    | none =>
      rw [build_of_unknown hname] at hs
      cases hs
    | some p =>
      rw [build_of_known hname] at hs
      split_ifs at hs with hok
      cases hs
      exact ⟨requested_toConfig hname, hok.1, hok.2, rfl⟩
  case accepted => rw [build_of_requested hreq, if_pos ⟨hratios, hc⟩]
  case refused =>
    refine (build_of_requested hreq).trans (if_neg fun hok => ?_)
    rw [hok.1, hok.2, or_self] at hbad
    cases hbad

/-! ## The default `HALF` (R77) -/

theorem ratio_positive_iff {r : Ratio} : r.positive = true ↔ 0 < r.num ∧ 0 < r.den := by
  rw [Ratio.positive, Bool.and_eq_true, decide_eq_true_iff, decide_eq_true_iff]

/-- `S/(2f) + 1/2` as one fraction of natural numbers. -/
theorem halfPeriod_add_half {rate freq : Ratio} (hrate : rate.positive = true)
    (hfreq : freq.positive = true) :
    ((rate.num : ℚ) / rate.den) / (2 * ((freq.num : ℚ) / freq.den)) + 1 / 2 =
      ((rate.num * freq.den + freq.num * rate.den : ℕ) : ℚ) / ((2 * (freq.num * rate.den) : ℕ) : ℚ) := by
  obtain ⟨-, hrd⟩ := ratio_positive_iff.mp hrate
  obtain ⟨hfn, hfd⟩ := ratio_positive_iff.mp hfreq
  have hrd' : (rate.den : ℚ) ≠ 0 := Nat.cast_ne_zero.mpr hrd.ne'
  have hfn' : (freq.num : ℚ) ≠ 0 := Nat.cast_ne_zero.mpr hfn.ne'
  have hfd' : (freq.den : ℚ) ≠ 0 := Nat.cast_ne_zero.mpr hfd.ne'
  push_cast
  field_simp

/-- Settles O57: the division of natural numbers is the floor of the rational quotient. -/
theorem halfPeriodIsNearest : Obligations.HalfPeriodIsNearest := by
  intro rate freq hrate hfreq
  rw [halfPeriod_add_half hrate hfreq, Nat.floor_div_eq_div, halfFrom]

/-! ## The widths of the counters (R22, R27, R31, R35) -/

theorem lt_two_pow_width {x k : Nat} (h : x < k) : x < 2 ^ max 1 (Nat.clog 2 k) :=
  calc x < k := h
    _ ≤ 2 ^ Nat.clog 2 k := Nat.le_pow_clog Nat.one_lt_two k
    _ ≤ 2 ^ max 1 (Nat.clog 2 k) := Nat.pow_le_pow_right Nat.two_pos (le_max_right 1 _)

/-- Settles O59: each counter is below its bound, and the bound fits its width. -/
theorem countersFitTheirWidths : Obligations.CountersFitTheirWidths := by
  intro s h
  have hemt := emt_inRange h.in_range
  exact ⟨fun p => ⟨lt_two_pow_width (det_inRange h.in_range p).1,
      lt_two_pow_width (det_inRange h.in_range p).2⟩,
    lt_two_pow_width hemt.1, lt_two_pow_width hemt.2,
    fun o => lt_two_pow_width (halfCnt_inRange h.in_range o),
    lt_two_pow_width (repCnt_inRange h.in_range)⟩

end Sys2Proof.Machine
end
